-- ==== Sys2Proof/Word.lean ====
section
/-! DEFINITION. The words of the CJ240: every bus access and every window word is 16 bits (00_scope, "Words and addresses"). -/

namespace Sys2Proof

/-- A 16-bit word of the controller's bus. -/
abbrev Word := BitVec 16

/-- A byte: of the printer line (R137), or of the model's memory. -/
abbrev Byte := BitVec 8

/-- A 32-bit amount as its two words hold it, low word first (00_scope). -/
abbrev Amount := BitVec 32

end Sys2Proof
end

