-- ==== Sys2Proof/Config.lean ====
section
/-! DEFINITION. What is fixed outside the machine's state: the free values (opaque, without a body, so no proof knows one) and the sizes the guide fixes. -/

namespace Sys2Proof.Config

/-- FREE VALUE (log 8). What a word of a write cycle cut by a supply failure holds afterwards: its new value, its old one,
or neither (R117). Applied to `Block.freeCount` plus the word's place in the cycle. -/
opaque tornWord : Nat → Word

/-- FREE VALUE (log 11). Whether a waiting exposure is taken before a waiting discard walk in the event that frees a place
of the posting queue (R94). Applied to `Block.freeCount`. -/
opaque exposureFirst : Nat → Bool

/-- FREE VALUE (log 35). Whether a SPOIL that comes next is taken in the event that frees a place of the posting queue before
what waits for the place (R94). Applied to `Block.freeCount`. -/
opaque spoilFirst : Nat → Bool

/-- FREE VALUE (log 40). Whether a posting that waits is taken as a planning read's end frees the Account Store Port, before the
claim of the next planning read arrives (R88, R109). Applied to `Block.freeCount`. -/
opaque postingFirst : Nat → Bool

/-- Word writes of the window initialisation (R175). -/
def initWrites : Nat := 2912

/-- Places of the posting queue (R92). -/
def postingPlaces : Nat := 8

/-- Entries of the gate list (R27). -/
def gateEntries : Nat := 8

end Sys2Proof.Config
end

