-- ==== Sys2Proof/Syntax.lean ====
section
/-! DEFINITION. The commands of the CJ240: one constructor for each row of spec/opcode_table.json, in the table's order,
with the operands its rule gives. -/

namespace Sys2Proof

/-- One controller access on the bus: a byte address, whose bit 0 is disregarded, and for a write the word (R151, log 29). -/
inductive Access where
  | read (addr : Nat)
  | write (addr : Nat) (value : Word)
  deriving DecidableEq, Repr

/-- The byte address a controller access names. -/
def Access.addr : Access → Nat
  | .read a => a
  | .write a _ => a

/-- The rows of the table; what comes from outside is an operand (log 32). A `frame : Fin 72` is the frame position less one
(R78). The Boolean levels are input levels at the event: `switchClosed` the end-of-film switch (R75, log 7), `parityBit` and
`stopBit` the received bits, true being the stop-bit level (R137), `supplyFailed` whether the supply failed before this
power-on and not only dipped (R176, log 8). -/
inductive Instr where
  | orderControlRead (slot : Fin 24)
  | orderControlWrite (slot : Fin 24) (value : Word)
  | orderSetupWrite (slot : Fin 24) (word : Fin 16) (value : Word)
  | orderResultWordWrite (slot : Fin 24) (word : Fin 16) (value : Word)
  | writeBackComplete
  | skipBaseReadComplete
  | arrivalReferenceWrite (value : Word)
  | arrive
  | withdraw
  | conversionCompletion (reading : BitVec 10)
  | planningReadComplete
  | resultCopyLoaded
  | exposureTableReadComplete
  | exposureCompletion
  | load (length : BitVec 8)
  | unload (switchClosed : Bool)
  | retry (switchClosed : Bool)
  | perforationPulse
  | advanceTimeout
  | endOfFilmSwitchClosing
  | rewindTimeout
  | standClockIncrement
  | standClockRead
  | postingReadComplete
  | postingWriteComplete
  | unpostedTotalLowRead
  | unpostedTotalLowWrite (value : Word)
  | unpostedTotalHighWrite (value : Word)
  | lastFaultedAccountWrite (value : Word)
  | openGate
  | closeGate
  | fill
  | openingAmountWrite (high : Bool) (value : Word)
  | fillStepReadComplete
  | fillStepComplete
  | controllerNvRead (word : Fin 4096)
  | controllerNvReadComplete
  | accountTableWrite (account : Fin 128) (word : Fin 8) (value : Word)
  | accountWriteReadComplete
  | accountWriteComplete
  | generalAreaWrite (word : Fin 4096) (value : Word)
  | generalAreaWriteComplete
  | nvReadyAfterReset
  | returnPage (page : Fin 4)
  | discard (page : Fin 4)
  | spoil (page : Fin 4) (frame : Fin 72)
  | reprint (page : Fin 4) (frame : Fin 72)
  | accept (page : Fin 4) (frame : Fin 72)
  | templateLineWrite (template : Fin 16) (word : Fin 32) (value : Word)
  | compositionComplete
  | messageEnd
  | byteArrival (data : Byte) (parityBit : Bool) (stopBit : Bool)
  | replyTimeout
  | resume
  | run
  | hold
  | softReset
  | settingsRecordWrite (word : Fin 32) (value : Word)
  | schemeWrite (scheme : Fin 8) (word : Fin 8) (value : Word)
  | dayWordWrite (value : Word)
  | noticeFlagsWrite (value : Word)
  | noticeLevelsWrite (value : Word)
  | refusedAddressLowRead
  | refusedWrite (addr : Nat) (value : Word)
  | controllerMemoryAccess (access : Access)
  | memoryAccessComplete
  | windowInitialisationEnd
  | powerOn (straps : BitVec 2) (supplyFailed : Bool)
  | resetPinAssert
  | resetPinRelease (straps : BitVec 2)
  | supplyLow
  | supplyGood (straps : BitVec 2) (supplyFailed : Bool)
  | transmitStopBitEnd
  | receiveLineReturnToRest
  deriving DecidableEq, Repr

end Sys2Proof
end

