-- ==== Sys2Proof/WellFormed.lean ====
section
/-! DEFINITION. Which operands a row's rule admits, beyond what the operand types already say. -/

namespace Sys2Proof

/-- A command's operands lie where its row puts them: order words 1-6 (R6) and 7-8 (R7), template line words 1-24 (R130),
the general area above the account table (R104), a refused write at a RAM word (R157; NV words have rows of their own), a
memory access outside the NV store (R154, R151). Exec is total and treats an ill-formed term as the access its operands
name. -/
def Instr.wf : Instr → Bool
  | .orderSetupWrite _ w _ => decide (1 ≤ w.val ∧ w.val ≤ 6)
  | .orderResultWordWrite _ w _ => decide (7 ≤ w.val ∧ w.val ≤ 8)
  | .templateLineWrite _ w _ => decide (1 ≤ w.val ∧ w.val ≤ 24)
  | .generalAreaWrite w _ => decide (0x400 ≤ w.val)
  | .refusedWrite a _ => decide (a < 0x20000)
  | .controllerMemoryAccess a => decide (a.addr < 0x20000 ∨ 0x22000 ≤ a.addr)
  | _ => true

end Sys2Proof
end

