-- ==== Sys2Proof/Decode.lean ====
section
/-! DEFINITION. The table gives no row any bits (every row's "fields" is empty), so no word spells a command. -/

namespace Sys2Proof

/-- The command a word spells by the table's bits: none, for every word (log 30). -/
def decodeTableWord (_nbits _w : Nat) : Option Instr := none

end Sys2Proof
end

