-- ==== Sys2Proof/Machine/State.lean ====
section
/-! DEFINITION. The state of the CJ240, block by block as the chapters list it, the value of each piece at reset, and the
one update per block. State is plain data. -/

namespace Sys2Proof.Machine

/-! ## Names the guide gives -/

/-- Stand states (10.1). -/
inductive StandState where | starting | held | running | holding
  deriving DecidableEq, Repr

/-- Gate states (2.1). -/
inductive GateState where | empty | metering | planning | serving | done
  deriving DecidableEq, Repr

/-- Order codes (R2). -/
inductive OrderCode where | idle | opened | serving | filled | halted
  deriving DecidableEq, Repr

/-- Reasons of the order record's last reason and of the gate list view (R1, R43). -/
inductive Reason where
  | none | jam | aborted | reset | badSetup | rollShort | fundsShort | accountFault | accountStopped | listFull
  deriving DecidableEq, Repr

/-- States of a gate-list entry (R43). -/
inductive EntryState where | candidate | planned | active | served | skipped | dropped | cancelled
  deriving DecidableEq, Repr

/-- Outcome codes (2.6); `noneYet` is the code 0 of a cycle in progress (R42). -/
inductive OutcomeCode where
  | noneYet | served | noneServed | noMatch | dark | bright | notReady | aborted | jammed | reset
  deriving DecidableEq, Repr

/-- Lamp conditions (R45). -/
inductive Lamp where | off | meter | expose
  deriving DecidableEq, Repr

/-- Film states (R63). -/
inductive FilmState where | empty | leader | ready | exposing | advancing | ended | jammed | rewinding
  deriving DecidableEq, Repr

/-- The last film command (R63). -/
inductive FilmCommand where | none | load | unload | retry
  deriving DecidableEq, Repr

/-- The interrupted motion (R63). -/
inductive Motion where | none | leaderAdvance | frameAdvance | rewind
  deriving DecidableEq, Repr

/-- Page states (R119). -/
inductive PageState where | free | current | exposed | returned | discarding
  deriving DecidableEq, Repr

/-- Label states of a frame (R127). -/
inductive LabelState where | none | due | sent | printed | unsure | spoiled
  deriving DecidableEq, Repr

/-- Printer link states (R139). -/
inductive LinkState where | off | idle | sending | awaiting | stalled
  deriving DecidableEq, Repr

/-- Stall reasons (chapter 8). -/
inductive StallReason where | none | repeatedReject | paperOut | headOpen | garbled | noReply
  deriving DecidableEq, Repr

/-- Parity of the printer line (R137). -/
inductive Parity where | none | even | odd
  deriving DecidableEq, Repr

/-- What the NV port is doing (R106); FILLING is computed from the fill state. -/
inductive NvPhase where | idle | reading | writing
  deriving DecidableEq, Repr

/-- Fill states (R114). -/
inductive FillState where | idle | filling | done | stopped
  deriving DecidableEq, Repr

/-- Kinds of posting (R91). -/
inductive PostingKind where | charge | credit
  deriving DecidableEq, Repr

/-- Where the step in hand of the ACTIVE entry stands (R33, R34, R39): loading the result copy, reading the exposure table,
waiting for READY and room, exposing, or waiting for the advance that follows. -/
inductive StepPhase where | loading | tableRead | waiting | exposing | advancing
  deriving DecidableEq, Repr

/-- The claim the NV port is serving (R109); the controller's claims are told apart by what they do. -/
inductive Claim where | ctlRead | ctlAccount | ctlGeneral | planning | posting | fill
  deriving DecidableEq, Repr

/-! ## Order Table (chapter 1) -/

/-- The shadow of one slot (R3). `writeBacks` counts the write-backs issued for the slot and not yet complete; the
write-back mark is set while it is not 0 (R11). -/
structure Shadow where
  code : OrderCode
  priority : BitVec 4
  ref : Word
  mask : Word
  account : Word
  copies : BitVec 8
  scheme : BitVec 3
  template : Word
  limit : BitVec 8
  lastServed : Word
  served : Word
  writeBacks : Nat
  deriving DecidableEq, Repr

/-- The held write-back: result word 7 + i is covered when entry i holds a value (R14). -/
structure HeldWriteBack where
  words : Vector (Option Word) 9
  notice : Bool
  deriving DecidableEq, Repr

/-- The locked slot and its held write-back, if any: a held write-back exists only for the locked slot (R14). -/
structure Lock where
  slot : Fin 24
  held : Option HeldWriteBack
  deriving DecidableEq, Repr

/-- A halt or skip write-back waiting for its base read (R10): `stamp` is the time stamp of a halt, none for a skip;
`counted` says that it already counts as issued for its slot. -/
structure BaseRead where
  slot : Fin 24
  reason : Reason
  stamp : Option Word
  counted : Bool
  deriving DecidableEq, Repr

/-- What waits behind an outstanding base read of its slot (R10). -/
inductive Deferred where
  | base (slot : Fin 24) (reason : Reason) (stamp : Option Word)
  | load (slot : Fin 24)
  deriving DecidableEq, Repr

structure Orders where
  shadows : Vector Shadow 24
  lock : Option Lock
  deferred : List Deferred
  deriving DecidableEq, Repr

/-! ## Gate Engine (chapter 2) -/

/-- One entry of the gate list. `copy` and `step` are the position of the next step; `hold` is the Charge Unit's. -/
structure Entry where
  slot : Fin 24
  st : EntryState
  reason : Reason
  deactivated : Bool
  copies : Nat
  steps : Nat
  offsets : List Int
  account : Fin 128
  template : Option (Fin 16)
  rate : Fin 4
  planned : Nat
  exposed : Nat
  skipped : Nat
  copy : Nat
  step : Nat
  hold : Nat
  deriving DecidableEq, Repr

/-- The gate outcome record (R42). -/
structure OutcomeRecord where
  ref : Word
  reading : BitVec 10
  density : Nat
  code : OutcomeCode
  served : Nat
  rollShort : Nat
  fundsShort : Nat
  accountFault : Nat
  accountStopped : Nat
  listFull : Nat
  dropped : Nat
  exposed : Nat
  uncalibrated : Nat
  deriving DecidableEq, Repr

/-- The active order copy (R32) of the entry at position `index`, with the phase of its step, the first frame it exposed
and the sum of the prices of its frames (R9). -/
structure ActiveOrder where
  index : Nat
  slot : Fin 24
  account : Fin 128
  rate : Fin 4
  copies : Nat
  template : Option (Fin 16)
  steps : Nat
  offsets : List Int
  limit : BitVec 8
  phase : StepPhase
  first : Option (Fin 4 × Fin 72)
  charged : Nat
  deriving DecidableEq, Repr

structure Gate where
  st : GateState
  staged : Word
  ref : Word
  withdrawPending : Bool
  resetPending : Bool
  deactivated : Vector Bool 24
  list : List Entry
  visiting : Option Nat
  outcome : OutcomeRecord
  active : Option ActiveOrder
  result : Option (Vector Word 9)
  deriving DecidableEq, Repr

/-! ## Exposure Unit (chapter 3) -/

structure Exposure where
  lamp : Lamp
  converting : Bool
  reading : BitVec 10
  density : Nat
  schemes : Vector (Vector Word 8) 8
  index : Nat
  clipped : Bool
  lampTime : Word
  stamp : Word
  deriving DecidableEq, Repr

/-! ## Film Transport (chapter 4) -/

/-- `pulsesPerFrame`, `limit` and `elapsed` belong to the motion in progress (R63, R69). `switchClosed` is the level of the
end-of-film switch input as last reported (log 7). -/
structure Film where
  st : FilmState
  length : Nat
  used : Nat
  page : Option (Fin 4)
  pulses : Nat
  leaderLeft : Nat
  interrupted : Motion
  lastCommand : FilmCommand
  running : Bool
  pulsesPerFrame : Nat
  limit : Nat
  elapsed : Nat
  switchClosed : Bool
  deriving DecidableEq, Repr

/-! ## Page Unit and Label Engine (chapter 7) -/

structure Frame where
  label : LabelState
  attempts : Nat
  template : Option (Fin 16)
  account : Fin 128
  amount : Nat
  deriving DecidableEq, Repr

structure Page where
  st : PageState
  roll : Word
  length : Nat
  used : Nat
  day : Word
  position : Nat
  frames : Vector Frame 72
  deriving DecidableEq, Repr

/-- `walkPos` is the walk's current frame position on the head page of the walk queue, 0 when no page is walked (R125). -/
structure Pages where
  pages : Vector Page 4
  printQueue : List (Fin 4)
  walkQueue : List (Fin 4)
  walkPos : Nat
  rollCounter : Word
  useCount : Vector Nat 16
  composing : Bool
  composeAside : Nat
  deriving DecidableEq, Repr

/-! ## Charge Unit (chapter 5) -/

/-- A posting (R91); the frame record it comes from is its source. -/
structure Posting where
  account : Fin 128
  delta : Int
  kind : PostingKind
  page : Fin 4
  frame : Fin 72
  deriving DecidableEq, Repr

structure Charges where
  queue : List Posting
  reserved : Nat
  applying : Bool
  unposted : Amount
  readStage : Word
  writeStage : Word
  lastFaulted : Option (Fin 128)
  deriving DecidableEq, Repr

/-! ## Account Store Port (chapter 6) -/

structure Nv where
  gateOpen : Bool
  phase : NvPhase
  serving : Option Claim
  pair : Bool
  latch : List (Nat × Word)
  planClaim : Option (Fin 128)
  fillClaim : Bool
  fill : FillState
  stopping : Bool
  progress : Nat
  opening : Amount
  fillAmount : Amount
  deriving DecidableEq, Repr

/-! ## Printer Link (chapter 8) -/

/-- A byte on the transmit line, with the parity and rate it was begun at (R137, log 28). -/
structure TxByte where
  data : Byte
  parity : Parity
  rate : Fin 4
  deriving DecidableEq, Repr

/-- `bytes` is the message in hand once it is composed (54 bytes, R140), `next` the position of the next byte to send. -/
structure Link where
  st : LinkState
  enable : Bool
  parity : Parity
  rate : Fin 4
  replyLimit : Nat
  settingsPending : Bool
  message : Option (Fin 4 × Fin 72)
  bytes : List Byte
  next : Nat
  tx : Option TxByte
  stall : StallReason
  lastReply : Byte
  parityError : Bool
  framingError : Bool
  stray : Nat
  elapsed : Nat
  armed : Bool
  deriving DecidableEq, Repr

/-! ## Path Unit (chapter 9) -/

/-- One word access on the memory port. -/
inductive WordAcc where
  | read (addr : Nat)
  | write (addr : Nat) (value : Word)
  deriving DecidableEq, Repr

/-- Whose set of word accesses it is, and so what its completion means. -/
inductive Owner where
  | controller
  | ctlNvRead
  | ctlAccountRead
  | ctlAccountWrite
  | ctlGeneralWrite
  | windowInit
  | pageWrites
  | writeBack (slot : Fin 24) (notice : Bool)
  | skipBase (read : BaseRead)
  | resultLoad (known : Vector (Option Word) 9)
  | tableRead
  | planningRead
  | postingRead
  | postingWrite
  | fillRead
  | fillWrite
  | compose (page : Fin 4) (frame : Fin 72)
  | lost
  deriving DecidableEq, Repr

/-- The accesses of a set still to be taken: written out, or a long run told by its next member, or the composer's reads,
which are laid out when the arbiter first takes one (log 18). -/
inductive Work where
  | words (accs : List WordAcc)
  | init (next : Nat)
  | clear (page : Fin 4) (next : Nat)
  | compose (page : Fin 4) (frame : Fin 72)
  deriving DecidableEq, Repr

/-- A set of accesses issued together; `got` holds the words its reads have returned so far. -/
structure WordSet where
  owner : Owner
  work : Work
  got : List Word
  deriving DecidableEq, Repr

/-- The access in service on the memory port (R160): its owner, the word it reads, whether it is the last of its set, and
the words the set's reads have returned, this one among them. -/
structure Service where
  owner : Owner
  acc : WordAcc
  data : Word
  last : Bool
  got : List Word
  deriving DecidableEq, Repr

/-- The controller's access on the bus (R159): none; held undecoded (reset, initialisation); on the memory port; a claim
waiting for the NV port; taken by the NV port. -/
inductive Bus where
  | idle
  | held (access : Access)
  | memory (access : Access)
  | nvWait (access : Access)
  | nvTaken (access : Access)
  deriving DecidableEq, Repr

structure Path where
  straps : BitVec 2
  refusedAddr : BitVec 18
  refusedStage : Word
  port : Option Service
  bus : Bus
  ctlWait : Option WordSet
  partList : List WordSet
  readData : Word
  deriving DecidableEq, Repr

/-! ## Stand Control (chapter 10) -/

/-- `status` none is VALID, otherwise the word number of the invalid field. -/
structure Stand where
  st : StandState
  softReset : Bool
  status : Option (Fin 32)
  latched : Vector Word 32
  copy : Vector Word 32
  clock : Word
  day : Word
  flags : BitVec 8
  levels : Word
  deriving DecidableEq, Repr

/-! ## The block and the state -/

/-- Everything the guide gives the part, and its two memories; `freeCount` is the model's own (log 21). -/
structure Block where
  orders : Orders
  gate : Gate
  expo : Exposure
  film : Film
  pages : Pages
  charges : Charges
  nv : Nv
  link : Link
  path : Path
  stand : Stand
  mem : List Host.Cell
  nvCycle : Option (List (Nat × Word))
  resetPin : Bool
  supplyLow : Bool
  freeCount : Nat
  deriving DecidableEq, Repr

/-- The machine: the commands waiting, first in first out, and the block. -/
structure State where
  pending : List Instr
  part : Block
  deriving DecidableEq, Repr

/-- The guide names no condition that stops the part, so no step ends in a fault. -/
inductive Fault where
  /-- Raised by nothing: kept so that the type is not empty. Safe. -/
  | neverRaised
  deriving DecidableEq, Repr

inductive Refusal where
  /-- Raised by exec's arm of a row without a meaning, and by nothing else; no arm is left so. Safe. -/
  | notModelled (mnemonic : String)
  deriving DecidableEq, Repr

/-! ## One update per block -/

namespace Block
def setOrders (b : Block) (x : Orders) : Block := { b with orders := x }
def setGate (b : Block) (x : Gate) : Block := { b with gate := x }
def setExpo (b : Block) (x : Exposure) : Block := { b with expo := x }
def setFilm (b : Block) (x : Film) : Block := { b with film := x }
def setPages (b : Block) (x : Pages) : Block := { b with pages := x }
def setCharges (b : Block) (x : Charges) : Block := { b with charges := x }
def setNv (b : Block) (x : Nv) : Block := { b with nv := x }
def setLink (b : Block) (x : Link) : Block := { b with link := x }
def setPath (b : Block) (x : Path) : Block := { b with path := x }
def setStand (b : Block) (x : Stand) : Block := { b with stand := x }
def setMem (b : Block) (x : List Host.Cell) : Block := { b with mem := x }
def setNvCycle (b : Block) (x : Option (List (Nat × Word))) : Block := { b with nvCycle := x }
def setPins (b : Block) (resetPin supplyLow : Bool) : Block := { b with resetPin := resetPin, supplyLow := supplyLow }
def setFreeCount (b : Block) (x : Nat) : Block := { b with freeCount := x }
end Block

/-! ## Start values: at power-on, on the reset pin and after supply-low -/

/-- The start value of every shadow (R18). -/
def Shadow.start : Shadow :=
  { code := .idle, priority := 0, ref := 0, mask := 0, account := 0, copies := 0, scheme := 0, template := 0, limit := 0,
    lastServed := 0, served := 0, writeBacks := 0 }

/-- R18. -/
def Orders.start : Orders := { shadows := Vector.replicate 24 Shadow.start, lock := none, deferred := [] }

/-- An outcome record with every field 0 (R42, R44). -/
def OutcomeRecord.start : OutcomeRecord :=
  { ref := 0, reading := 0, density := 0, code := .noneYet, served := 0, rollShort := 0, fundsShort := 0, accountFault := 0,
    accountStopped := 0, listFull := 0, dropped := 0, exposed := 0, uncalibrated := 0 }

/-- R44. -/
def Gate.start : Gate :=
  { st := .empty, staged := 0, ref := 0, withdrawPending := false, resetPending := false,
    deactivated := Vector.replicate 24 false, list := [], visiting := none, outcome := OutcomeRecord.start,
    active := none, result := none }

/-- R62: every scheme count 1 with offsets 0, the step's values cleared. -/
def Exposure.start : Exposure :=
  { lamp := .off, converting := false, reading := 0, density := 0, schemes := Vector.replicate 8 #v[1, 0, 0, 0, 0, 0, 0, 0],
    index := 0, clipped := false, lampTime := 0, stamp := 0 }

/-- R83; the motion's own values 0 are a DESIGN CHOICE (log 25). `switchClosed` is an input pin. -/
def Film.start (switchClosed : Bool) : Film :=
  { st := .empty, length := 0, used := 0, page := none, pulses := 0, leaderLeft := 0, interrupted := .none,
    lastCommand := .none, running := false, pulsesPerFrame := 0, limit := 0, elapsed := 0, switchClosed := switchClosed }

/-- An empty frame: label state NONE and every other field 0 (R78, R135). -/
def Frame.start : Frame := { label := .none, attempts := 0, template := some 0, account := 0, amount := 0 }

/-- R135. -/
def Page.start : Page :=
  { st := .free, roll := 0, length := 0, used := 0, day := 0, position := 0, frames := Vector.replicate 72 Frame.start }

/-- R135, R83. -/
def Pages.start : Pages :=
  { pages := Vector.replicate 4 Page.start, printQueue := [], walkQueue := [], walkPos := 0, rollCounter := 0,
    useCount := Vector.replicate 16 0, composing := false, composeAside := 0 }

/-- R103. -/
def Charges.start : Charges :=
  { queue := [], reserved := 0, applying := false, unposted := 0, readStage := 0, writeStage := 0, lastFaulted := none }

/-- R118. -/
def Nv.start : Nv :=
  { gateOpen := false, phase := .idle, serving := none, pair := false, latch := [], planClaim := none, fillClaim := false,
    fill := .idle, stopping := false, progress := 0, opening := 0, fillAmount := 0 }

/-- R150: rate 3 is 9600 bit/s (R182); the receiver armed and the count 0 are DESIGN CHOICES (log 19, 25). -/
def Link.start : Link :=
  { st := .off, enable := false, parity := .none, rate := 3, replyLimit := 100, settingsPending := false, message := none,
    bytes := [], next := 0, tx := none, stall := .none, lastReply := 0, parityError := false, framingError := false,
    stray := 0, elapsed := 0, armed := true }

/-- The default settings record: R182's defaults, 0 in the words without a field (R175). -/
def settingsDefaults : Vector Word 32 :=
  #v[0, 0, 40, 1000, 8, 2, 50, 3000, 150, 60, 120, 50, 0, 0, 200, 80, 0, 0, 3, 100, 0, 0, 0, 0, 0, 0, 0, 0, 0, 0, 0, 0]

/-- R175; the settings copy is 0 until the initialisation writes it (DESIGN CHOICE, log 25). -/
def Stand.start : Stand :=
  { st := .starting, softReset := false, status := none, latched := settingsDefaults, copy := Vector.replicate 32 0,
    clock := 0, day := 0, flags := 0, levels := 0 }

/-- The first write of the window initialisation, in service (R175, R160). -/
def Service.firstInit (straps : BitVec 2) : Service :=
  { owner := .windowInit, acc := .write (0x18000 + 0x2000 * straps.toNat) 0, data := 0, last := false, got := [] }

/-- The machine right after power-on (R175): every block at its start values, the stand STARTING, the window
initialisation issued, its first write in service. The straps read 0 and the switch reads open: DESIGN CHOICE (log 6, 7). -/
def State.reset : State :=
  { pending := [],
    part :=
      { orders := Orders.start, gate := Gate.start, expo := Exposure.start, film := Film.start false, pages := Pages.start,
        charges := Charges.start, nv := Nv.start, link := Link.start,
        path :=
          { straps := 0, refusedAddr := 0, refusedStage := 0, port := some (Service.firstInit 0), bus := .idle,
            ctlWait := none, partList := [{ owner := .windowInit, work := .init 1, got := [] }], readData := 0 },
        stand := Stand.start, mem := [], nvCycle := none, resetPin := false, supplyLow := false, freeCount := 0 } }

end Sys2Proof.Machine
end

