-- ==== Sys2Proof/Machine/Operands.lean ====
section
/-! DEFINITION. Operand forms: bit fields and codes of the words (chapter 11), the address map (R151, R152, R180), the
settings record's fields (R182), and the narrowing arithmetic the rules use. -/

namespace Sys2Proof.Machine

/-! ## Bit fields and amounts -/

/-- Bits `lo` up to `lo + len - 1` of a word, as an unsigned number (chapter 11). -/
def bits (w : Word) (lo len : Nat) : Nat := w.toNat / 2 ^ lo % 2 ^ len

/-- A word from the number its fields make up. -/
def word (n : Nat) : Word := BitVec.ofNat 16 n

/-- 1 for a set mark, 0 for a clear one. -/
def flagBit (b : Bool) : Nat := if b then 1 else 0

/-- A counter that stops at 65535 (R9, R10, R97). -/
def satAdd (w : Word) (n : Nat) : Word := word (min 65535 (w.toNat + n))

/-- The low and the high word of a 32-bit amount (00_scope). -/
def lowHalf (a : Amount) : Word := a.extractLsb' 0 16
def highHalf (a : Amount) : Word := a.extractLsb' 16 16

/-- The 32-bit amount of two words. -/
def amount (high low : Word) : Amount := high ++ low

/-- A signed sum kept within 32 bits by saturation (R96, R97). -/
def satAmount (i : Int) : Amount := BitVec.ofInt 32 (max (-2147483648) (min 2147483647 i))

/-- The exposure index of a raw value, clamped to 0-63 (R54). -/
def clampIndex (raw : Int) : Nat := (max 0 (min 63 raw)).toNat

/-- The density index of an accepted reading (R49). -/
def densityIndex (reading : BitVec 10) : Nat := (1023 - reading.toNat) / 26

/-- A count of the outcome record: 0-255, saturating (R42). -/
def count255 (n : Nat) : Nat := min 255 (n + 1)

/-! ## Codes (chapter 11) -/

def StandState.code : StandState → Nat | .starting => 0 | .held => 1 | .running => 2 | .holding => 3
def GateState.code : GateState → Nat | .empty => 0 | .metering => 1 | .planning => 2 | .serving => 3 | .done => 4
def OrderCode.code : OrderCode → Nat | .idle => 0 | .opened => 1 | .serving => 2 | .filled => 3 | .halted => 4
def Reason.code : Reason → Nat
  | .none => 0 | .jam => 1 | .aborted => 2 | .reset => 3 | .badSetup => 4 | .rollShort => 5 | .fundsShort => 6
  | .accountFault => 7 | .accountStopped => 8 | .listFull => 9
def EntryState.code : EntryState → Nat
  | .candidate => 0 | .planned => 1 | .active => 2 | .served => 3 | .skipped => 4 | .dropped => 5 | .cancelled => 6
def OutcomeCode.code : OutcomeCode → Nat
  | .noneYet => 0 | .served => 1 | .noneServed => 2 | .noMatch => 3 | .dark => 4 | .bright => 5 | .notReady => 6
  | .aborted => 7 | .jammed => 8 | .reset => 9
def FilmState.code : FilmState → Nat
  | .empty => 0 | .leader => 1 | .ready => 2 | .exposing => 3 | .advancing => 4 | .ended => 5 | .jammed => 6 | .rewinding => 7
def FilmCommand.code : FilmCommand → Nat | .none => 0 | .load => 1 | .unload => 2 | .retry => 3
def Motion.code : Motion → Nat | .none => 0 | .leaderAdvance => 1 | .frameAdvance => 2 | .rewind => 3
def PageState.code : PageState → Nat | .free => 0 | .current => 1 | .exposed => 2 | .returned => 3 | .discarding => 4
def LabelState.code : LabelState → Nat
  | .none => 0 | .due => 1 | .sent => 2 | .printed => 3 | .unsure => 4 | .spoiled => 5
def LinkState.code : LinkState → Nat | .off => 0 | .idle => 1 | .sending => 2 | .awaiting => 3 | .stalled => 4
def StallReason.code : StallReason → Nat
  | .none => 0 | .repeatedReject => 1 | .paperOut => 2 | .headOpen => 3 | .garbled => 4 | .noReply => 5
def NvPhase.code : NvPhase → Nat | .idle => 0 | .reading => 1 | .writing => 2
def FillState.code : FillState → Nat | .idle => 0 | .filling => 1 | .done => 2 | .stopped => 3

/-- The template field of an order record: 0-15, or 0xFFFF for NONE; any other value is invalid (R178). -/
def orderTemplate (w : Word) : Option (Option (Fin 16)) :=
  if w = 0xFFFF then some none else if w.toNat ≤ 15 then some (some (Fin.ofNat 16 w.toNat)) else none

/-- The template field of a frame record: 31 for NONE (R178). -/
def templateField : Option (Fin 16) → Nat
  | none => 31
  | some t => t.val

/-- The first frame word: page in bits 9-8, frame position in bits 7-0 (R178). -/
def firstFrameWord (page : Fin 4) (frame : Fin 72) : Word := word (page.val * 256 + (frame.val + 1))

/-! ## Settings record (R182) -/

abbrev Settings := Vector Word 32

namespace Settings
/-- Arbitration mode PRIORITY (word 0 is 0) or SLOT. -/
def byPriority (s : Settings) : Bool := s[0] = 0
def calibration (s : Settings) : Int := s[1].toInt
def dark (s : Settings) : Nat := s[2].toNat
def bright (s : Settings) : Nat := s[3].toNat
def pulses (s : Settings) : Nat := s[4].toNat
def leader (s : Settings) : Nat := s[5].toNat
def advanceLimit (s : Settings) : Nat := s[6].toNat
def rewindLimit (s : Settings) : Nat := s[7].toNat
/-- The primary and the bracket price of a rate class (R85). -/
def primary (s : Settings) (k : Fin 4) : Nat := s[8 + 2 * k.val].toNat
def bracket (s : Settings) (k : Fin 4) : Nat := s[9 + 2 * k.val].toNat
def printerOn (s : Settings) : Bool := s[16] = 1
def parity (s : Settings) : Parity := if s[17] = 1 then .even else if s[17] = 2 then .odd else .none
def rate (s : Settings) : Fin 4 := Fin.ofNat 4 s[18].toNat
def replyLimit (s : Settings) : Nat := s[19].toNat

/-- The price of a step (R86). -/
def stepPrice (s : Settings) (k : Fin 4) (step : Nat) : Nat := if step = 1 then s.primary k else s.bracket k

/-- The hold amount of an entry of `copies` copies of `steps` steps (R86). -/
def holdAmount (s : Settings) (k : Fin 4) (copies steps : Nat) : Nat :=
  copies * (s.primary k + (steps - 1) * s.bracket k)

/-- Whether field word `i` of the record is valid (R166); words 20-31 carry no field. -/
def fieldValid (s : Settings) (i : Fin 32) : Bool :=
  let v := s[i].toNat
  match i.val with
  | 0 => v ≤ 1
  | 1 => -16 ≤ s[i].toInt ∧ s[i].toInt ≤ 16
  | 2 => v ≤ 1023
  | 3 => v ≤ 1023 ∧ s.dark < v
  | 4 => 4 ≤ v ∧ v ≤ 16
  | 5 => v ≤ 4
  | 6 => 10 ≤ v ∧ v ≤ 200
  | 7 => 100 ≤ v ∧ v ≤ 6000
  | 8 | 9 | 10 | 11 | 12 | 13 | 14 | 15 => v ≤ 9999
  | 16 => v ≤ 1
  | 17 => v ≤ 2
  | 18 => v ≤ 3
  | 19 => 10 ≤ v ∧ v ≤ 255
  | _ => true

/-- The first invalid field in ascending word order, if any (R165, R166). -/
def firstInvalid (s : Settings) : Option (Fin 32) := (List.finRange 32).find? (fun i => !s.fieldValid i)
end Settings

/-! ## The address map -/

/-- What a controller address names: no memory, an NV word, a plain RAM word, or a word of the window by its region. The
frame index is the position less one. -/
inductive Target where
  | noMemory
  | nv (word : Fin 4096)
  | plain (addr : Nat)
  | stand (word : Fin 64)
  | settings (word : Fin 32)
  | exposure (index : Fin 64)
  | scheme (scheme : Fin 8) (word : Fin 8)
  | order (slot : Fin 24) (word : Fin 16)
  | gateView (position : Fin 8) (word : Fin 4)
  | template (template : Fin 16) (word : Fin 32)
  | header (page : Fin 4) (word : Fin 8)
  | frame (page : Fin 4) (frame : Fin 72) (word : Fin 6)
  deriving DecidableEq, Repr

/-- The window base the held straps select (R152). -/
def windowBase (straps : BitVec 2) : Nat := 0x18000 + 0x2000 * straps.toNat

/-- Where the NV store begins (R104). -/
def nvBase : Nat := 0x20000

/-- The address of a frame record (R78). -/
def frameOffset (page : Fin 4) (frame : Fin 72) : Nat := 0x0A00 + 0x380 * page.val + 0x10 + 12 * frame.val

/-- The byte address of a target (R104, R151, R180). -/
def addrOf (straps : BitVec 2) : Target → Nat
  | .noMemory => 0x22000
  | .nv w => nvBase + 2 * w.val
  | .plain a => a
  | .stand w => windowBase straps + 2 * w.val
  | .settings w => windowBase straps + (0x0080 + 2 * w.val)
  | .exposure i => windowBase straps + (0x0100 + 2 * i.val)
  | .scheme m w => windowBase straps + (0x0180 + 0x10 * m.val + 2 * w.val)
  | .order n k => windowBase straps + (0x0200 + 0x20 * n.val + 2 * k.val)
  | .gateView k w => windowBase straps + (0x0500 + 8 * k.val + 2 * w.val)
  | .template t w => windowBase straps + (0x0600 + 0x40 * t.val + 2 * w.val)
  | .header p w => windowBase straps + (0x0A00 + 0x380 * p.val + 2 * w.val)
  | .frame p f w => windowBase straps + (frameOffset p f + 2 * w.val)

/-- The target of a page's word offset `q` within the page; the last 8 words are plain (R77). -/
def pageTarget (addr : Nat) (p : Fin 4) (q : Nat) : Target :=
  if q < 8 then .header p (Fin.ofNat 8 q)
  else if q < 440 then .frame p (Fin.ofNat 72 ((q - 8) / 6)) (Fin.ofNat 6 ((q - 8) % 6))
  else .plain addr

/-- The target of window word number `j`, at address `addr` (R153, R180). -/
def windowTarget (addr j : Nat) : Target :=
  if j < 64 then .stand (Fin.ofNat 64 j)
  else if j < 96 then .settings (Fin.ofNat 32 (j - 64))
  else if j < 128 then .plain addr
  else if j < 192 then .exposure (Fin.ofNat 64 (j - 128))
  else if j < 256 then .scheme (Fin.ofNat 8 ((j - 192) / 8)) (Fin.ofNat 8 ((j - 192) % 8))
  else if j < 640 then .order (Fin.ofNat 24 ((j - 256) / 16)) (Fin.ofNat 16 ((j - 256) % 16))
  else if j < 672 then .gateView (Fin.ofNat 8 ((j - 640) / 4)) (Fin.ofNat 4 ((j - 640) % 4))
  else if j < 768 then .plain addr
  else if j < 1280 then .template (Fin.ofNat 16 ((j - 768) / 32)) (Fin.ofNat 32 ((j - 768) % 32))
  else if j < 3072 then pageTarget addr (Fin.ofNat 4 ((j - 1280) / 448)) ((j - 1280) % 448)
  else .plain addr

/-- The address with bit 0 taken as 0 (R151). -/
def evenAddr (addr : Nat) : Nat := addr / 2 * 2

/-- Whether an address lies in the window (R152). -/
def inWindow (straps : BitVec 2) (addr : Nat) : Bool := windowBase straps ≤ addr ∧ addr < windowBase straps + 0x2000

/-- R151, R153: what a controller address names, bit 0 taking no part. -/
def decodeAddr (straps : BitVec 2) (addr : Nat) : Target :=
  let a := evenAddr addr
  if 0x22000 ≤ a then .noMemory
  else if nvBase ≤ a then .nv (Fin.ofNat 4096 ((a - nvBase) / 2))
  else if inWindow straps a then windowTarget a ((a - windowBase straps) / 2)
  else .plain a

/-- NV address of word `k` of an account record (R104, R186). -/
def accountAddr (account : Fin 128) (k : Nat) : Nat := nvBase + 0x10 * account.val + 2 * k

/-! ## The window initialisation (R175) -/

/-- The window word number of initialisation write `i`, in ascending address order, the plain gaps left out. -/
def initWordNumber (i : Nat) : Nat :=
  if i < 96 then i
  else if i < 640 then i + 32
  else if i < 1152 then i + 128
  else 1280 + 448 * ((i - 1152) / 440) + (i - 1152) % 440

/-- What the initialisation writes into a word: the settings defaults, scheme count 1, spaces in template lines, else 0. -/
def initValue : Target → Word
  | .settings w => settingsDefaults[w]
  | .scheme _ w => if w.val = 0 then 1 else 0
  | .template _ w => if 1 ≤ w.val ∧ w.val ≤ 24 then 0x2020 else 0
  | _ => 0

/-- Initialisation write `i`. -/
def initWrite (straps : BitVec 2) (i : Nat) : WordAcc :=
  let j := initWordNumber i
  let a := windowBase straps + 2 * j
  .write a (initValue (windowTarget a j))

/-! ## The printer line's byte format (R137) -/

/-- The number of ones among eight data bits. -/
def onesOf (d : Byte) : Nat := ((List.range 8).filter (fun i => d.getLsbD i)).length

/-- The parity bit that goes with a byte; none without parity. -/
def parityBitOf (p : Parity) (d : Byte) : Option Bool :=
  match p with
  | .none => none
  | .even => some (onesOf d % 2 = 1)
  | .odd => some (onesOf d % 2 = 0)

/-- The bits of a byte on the line, in the order sent; true is the stop-bit (rest) level. -/
def TxByte.bits (t : TxByte) : List Bool :=
  false :: (List.range 8).map (fun i => t.data.getLsbD i) ++ (parityBitOf t.parity t.data).toList ++ [true]

end Sys2Proof.Machine
end

