-- ==== Sys2Proof/Machine/Flags.lean ====
section
/-! DEFINITION. The notice flags and levels, the attention lines (R173, R174), and the write-back mark and lock indication
(R11, R13). -/

namespace Sys2Proof.Machine

/-- The eight notice factors, in the order of the flags word (R173, R181). -/
inductive Notice where | gate | order | film | page | print | account | refused | stand
  deriving DecidableEq, Repr

/-- The factor's bit in the flags word, and its place among the levels (R181). -/
def Notice.index : Notice → Nat
  | .gate => 0 | .order => 1 | .film => 2 | .page => 3 | .print => 4 | .account => 5 | .refused => 6 | .stand => 7

/-- Whether a factor's flag is set. -/
def Block.flag (b : Block) (n : Notice) : Bool := b.stand.flags.getLsbD n.index

/-- A factor's event sets its flag, whatever its level (R173). -/
def raise (n : Notice) (b : Block) : Block :=
  b.setStand { b.stand with flags := b.stand.flags ||| BitVec.twoPow 8 n.index }

/-- Whether the part is held in reset by the pin or by supply-low (R175, R176). -/
def Block.inReset (b : Block) : Bool := b.resetPin || b.supplyLow

/-- The level of factor `k` in a levels word (R181). -/
def levelOf (levels : Word) (k : Nat) : Nat := bits levels (2 * k) 2

/-- The highest level among the factors whose flags are set, 0 when there is none (R174). -/
def highestLevel (flags : BitVec 8) (levels : Word) : Nat :=
  ((List.range 8).filter (fun k => flags.getLsbD k)).foldl (fun m k => max m (levelOf levels k)) 0

/-- The level the two attention lines carry: 0 in reset and during STARTING (R174). -/
def Block.attention (b : Block) : Nat :=
  if b.inReset || b.stand.st = .starting then 0 else highestLevel b.stand.flags b.stand.levels

/-- The shadow of a slot. -/
def Block.shadow (b : Block) (n : Fin 24) : Shadow := b.orders.shadows[n]

/-- The write-back mark: some write-back issued for the slot is not complete (R11). -/
def Block.mark (b : Block) (n : Fin 24) : Bool := b.orders.shadows[n].writeBacks ≠ 0

/-- The lock indication (R13). -/
def Block.locked (b : Block) (n : Fin 24) : Bool := b.orders.lock.any (fun l => l.slot = n)

/-- The advance motor runs in LEADER and ADVANCING, the rewind motor in REWINDING (R63). -/
def Film.advanceMotor (f : Film) : Bool := f.st = .leader || f.st = .advancing
def Film.rewindMotor (f : Film) : Bool := f.st = .rewinding

end Sys2Proof.Machine
end

