-- ==== Sys2Proof/Machine/Ops.lean ====
section
/-! DEFINITION. The named operations every block uses: memory, refused writes, the controller's access on the bus, the
issuing of word accesses and the path arbiter. -/

namespace Sys2Proof.Machine

/-! ## Memory -/

/-- What an address nothing is listed at reads as: RAM 0x00, the NV store 0xFF, an erased store (log 5; R105). -/
def unlisted (a : Nat) : Byte := if a < nvBase then 0x00 else 0xFF

/-- One byte of memory. -/
def Memory.get : List Host.Cell → Nat → Byte
  | [], a => unlisted a
  | (k, v) :: t, a => if a < k then unlisted a else if a = k then v else Memory.get t a

/-- Memory with one byte changed, in canonical form. -/
def Memory.set : List Host.Cell → Nat → Byte → List Host.Cell
  | [], a, v => if v = unlisted a then [] else [(a, v)]
  | (k, w) :: t, a, v =>
    if a < k then (if v = unlisted a then (k, w) :: t else (a, v) :: (k, w) :: t)
    else if a = k then (if v = unlisted a then t else (a, v) :: t)
    else (k, w) :: Memory.set t a v

/-- Every listed address is above `a`, and the list is in canonical form: addresses rising, no byte as an unlisted one. -/
def Memory.wfAbove : Nat → List Host.Cell → Bool
  | _, [] => true
  | a, (k, v) :: t => decide (a ≤ k) && decide (v ≠ unlisted k) && Memory.wfAbove (k + 1) t

/-- The canonical form of a memory. -/
def Memory.wf (m : List Host.Cell) : Bool := Memory.wfAbove 0 m

/-- The word at an even address; its low byte lies at that address (log 4). -/
def readWord (m : List Host.Cell) (a : Nat) : Word :=
  Memory.get m (evenAddr a + 1) ++ Memory.get m (evenAddr a)

/-- Memory with the word at an even address changed. -/
def writeWord (m : List Host.Cell) (a : Nat) (v : Word) : List Host.Cell :=
  Memory.set (Memory.set m (evenAddr a) (v.extractLsb' 0 8)) (evenAddr a + 1) (v.extractLsb' 8 8)

/-- The NV store's cells alone: what is left of memory when the supply has failed (R176, log 8). -/
def nvCells (m : List Host.Cell) : List Host.Cell := m.filter (fun c => nvBase ≤ c.1)

/-- RAM word at a target of the window, as the part finds it. -/
def Block.ram (b : Block) (t : Target) : Word := readWord b.mem (addrOf b.path.straps t)

/-! ## Refused writes and answers -/

/-- A refused write is dropped and reported (R157). -/
def refuse (addr : Nat) (b : Block) : Block :=
  raise .refused
    (if b.flag .refused then b
     else b.setPath { b.path with refusedAddr := BitVec.ofNat 18 (evenAddr addr) })

/-- The word a controller read returns (log 22). -/
def answer (w : Word) (b : Block) : Block := b.setPath { b.path with readData := w }

/-- The condition of the bus changes. -/
def setBus (x : Bus) (b : Block) : Block := b.setPath { b.path with bus := x }

/-- A refused write at a target of the window. -/
def refuseAt (t : Target) (b : Block) : Block := refuse (addrOf b.path.straps t) b

/-! ## The controller's access on the bus -/

/-- Whether an access is held on the bus undecoded: every access in reset, a window access during STARTING (R159, R175). -/
def Block.holds (b : Block) (a : Access) : Bool :=
  b.inReset || (decide (b.stand.st = .starting) && inWindow b.path.straps (evenAddr a.addr))

/-- Whether an access is served by the Path Unit and the word's owner, in the access and without a memory: a live or command
word, a word that the controller may only read, no memory (R151, R155, R157). -/
def servedAtOnce (straps : BitVec 2) (a : Access) : Bool :=
  match decodeAddr straps a.addr, a with
  | .noMemory, _ | .gateView _ _, _ | .header _ _, .write _ _ | .frame _ _ _, .write _ _ => true
  | .stand w, _ => w ≠ 6
  | .order _ k, _ => k = 0
  | .template _ k, _ => k = 0
  | .header _ k, .read _ => 6 ≤ k.val
  | _, _ => false

/-- A controller access comes on the bus: held, or served by `f`. While another is on the bus, only one that is served at once
is taken, such as a CLOSE while a write to the NV store waits (R106, R108, R114); any other does not begin, since the
controller makes one access at a time (R159, log 2). -/
def onBus (a : Access) (f : Block → Block) (b : Block) : Block :=
  if b.path.bus = .idle then (if b.holds a then setBus (.held a) b else f b)
  else if !b.holds a && servedAtOnce b.path.straps a then f b else b

/-- A controller write at a target of the window. -/
def writeAt (t : Target) (v : Word) (f : Block → Block) (b : Block) : Block :=
  onBus (.write (addrOf b.path.straps t) v) f b

/-- A controller read at a target of the window. -/
def readAt (t : Target) (f : Block → Block) (b : Block) : Block := onBus (.read (addrOf b.path.straps t)) f b

/-! ## Shadows and copies that follow memory -/

/-- A change of one slot's shadow. -/
def withShadow (n : Fin 24) (f : Shadow → Shadow) (b : Block) : Block :=
  b.setOrders { b.orders with shadows := b.orders.shadows.set n (f b.orders.shadows[n]) }

/-- What the Order Table takes from a write of order word `k` (R6, R7, R177). -/
def Shadow.take (k : Fin 16) (v : Word) (s : Shadow) : Shadow :=
  match k.val with
  | 1 => { s with ref := v }
  | 2 => { s with mask := v }
  | 3 => { s with account := v }
  | 4 => { s with copies := v.extractLsb' 0 8, scheme := v.extractLsb' 8 3 }
  | 5 => { s with template := v }
  | 6 => { s with limit := v.extractLsb' 0 8 }
  | 7 => { s with lastServed := v }
  | 8 => { s with served := v }
  | _ => s

/-- Result words 7-15, each covered or not. -/
abbrev ResultWords := Vector (Option Word) 9

/-- The held write-back of a slot. -/
def heldOf (b : Block) (n : Fin 24) : Option HeldWriteBack :=
  match b.orders.lock with
  | some l => if l.slot = n then l.held else none
  | none => none

/-- The result words a slot's held write-back covers; none when there is none. -/
def heldWords (b : Block) (n : Fin 24) : ResultWords :=
  match heldOf b n with
  | some h => h.words
  | none => Vector.replicate 9 none

/-- Whether an owner is a write-back of the slot. -/
def Owner.isWriteBackOf (n : Fin 24) : Owner → Bool
  | .writeBack m _ => decide (m = n)
  | _ => false

/-- Whether an access writes the word at an address. -/
def WordAcc.writesTo (a : Nat) : WordAcc → Bool
  | .write c _ => decide (c = a)
  | .read _ => false

/-- Whether a set has still to write the word at an address. -/
def WordSet.willWrite (a : Nat) (s : WordSet) : Bool :=
  match s.work with
  | .words l => l.any (WordAcc.writesTo a)
  | _ => false

/-- The shadow leads RAM in a result word: a write-back of the slot that covers the word is held, or waits in the part list, so the
shadow has its value already (R7, R26, log 36). Only service write-backs cover words 7 and 8 (R10). -/
def Block.leads (b : Block) (n : Fin 24) (k : Fin 16) : Bool :=
  (decide (k.val = 7) || decide (k.val = 8))
    && ((heldWords b n)[Fin.ofNat 9 (k.val - 7)].isSome
      || b.path.partList.any (fun s => s.owner.isWriteBackOf n && s.willWrite (addrOf b.path.straps (.order n k))))

/-- The owner of a watched word takes note of a write in the event in which the arbiter serves it (R154, R6, R7, R52, R166,
R172). In words 7 and 8 the shadow keeps its value while it leads RAM, whoever's write is served (R7, R26, logs 27 and 36). -/
def noteWrite (a : Nat) (v : Word) (b : Block) : Block :=
  match decodeAddr b.path.straps a with
  | .order n k => if b.leads n k then b else withShadow n (Shadow.take k v) b
  | .scheme m w => b.setExpo { b.expo with schemes := b.expo.schemes.set m (b.expo.schemes[m].set w v) }
  | .settings w => b.setStand { b.stand with copy := b.stand.copy.set w v }
  | .stand w => if w = 6 then b.setStand { b.stand with day := v } else b
  | _ => b

/-! ## Issuing and the path arbiter -/

/-- A set of word accesses joins the tail of the part list (R160, log 10). -/
def issue (owner : Owner) (work : Work) (b : Block) : Block :=
  b.setPath { b.path with partList := b.path.partList ++ [{ owner := owner, work := work, got := [] }] }

/-- Word accesses of the Page Unit: header and record words, in the order given. -/
def issuePage (accs : List (Target × Word)) (b : Block) : Block :=
  issue .pageWrites (.words (accs.map (fun x => .write (addrOf b.path.straps x.1) x.2))) b

/-- The words of the controller's access that go to the memory port (R160, R162). -/
def waitAtPort (owner : Owner) (accs : List WordAcc) (b : Block) : Block :=
  b.setPath { b.path with ctlWait := some { owner := owner, work := .words accs, got := [] } }

/-- The one word access a controller access makes (R151). -/
def accessWord : Access → WordAcc
  | .read a => .read (evenAddr a)
  | .write a v => .write (evenAddr a) v

/-- A controller access carried through the memory port (R154). -/
def memoryAccess (a : Access) (b : Block) : Block := waitAtPort .controller [accessWord a] (setBus (.memory a) b)

/-- Whether the record at position `f + 1` continues the run of the record at `f` (R133). -/
def continuesRun (b : Block) (p : Fin 4) (f : Nat) : Bool :=
  let w (f : Nat) (k : Fin 6) := b.ram (.frame p (Fin.ofNat 72 f) k)
  decide (f + 1 < 72) && bits (w f 0) 0 8 = bits (w (f + 1) 0) 0 8 && bits (w f 0) 12 4 = bits (w (f + 1) 0) 12 4
    && w f 1 = w (f + 1) 1 && decide (bits (w f 0) 8 4 < bits (w (f + 1) 0) 8 4)

/-- How many records follow record `f` in its run (R133). -/
def runAfter (b : Block) (p : Fin 4) : Nat → Nat → Nat
  | 0, _ => 0
  | fuel + 1, f => if continuesRun b p f then runAfter b p fuel (f + 1) + 1 else 0

/-- The composer's reads: the frame record, the records that follow it in its run, the 24 line words (R134, log 18). -/
def composeReads (b : Block) (p : Fin 4) (f : Fin 72) : List WordAcc :=
  let record (i : Nat) := (List.finRange 6).map (fun k => WordAcc.read (addrOf b.path.straps (.frame p (Fin.ofNat 72 i) k)))
  let t := b.pages.pages[p].frames[f].template.getD 0
  (List.range (runAfter b p 72 f.val + 1)).flatMap (fun i => record (f.val + i))
    ++ (List.range 24).map (fun k => WordAcc.read (addrOf b.path.straps (.template t (Fin.ofNat 32 (k + 1)))))

/-- The first access of a list and what is left of it. -/
def firstOf : List WordAcc → Option (WordAcc × Option Work)
  | [] => none
  | [a] => some (a, none)
  | a :: l => some (a, some (.words l))

/-- The next access of a set and what is left of its work; a LOAD's clearing goes in ascending record and word order (R160,
log 39). -/
def nextAcc (b : Block) : Work → Option (WordAcc × Option Work)
  | .words l => firstOf l
  | .init n => some (initWrite b.path.straps n, if n + 1 < Config.initWrites then some (.init (n + 1)) else none)
  | .clear p n =>
    some (.write (addrOf b.path.straps (.frame p (Fin.ofNat 72 (n / 6)) (Fin.ofNat 6 (n % 6)))) 0,
      if n + 1 < 432 then some (.clear p (n + 1)) else none)
  | .compose p f => firstOf (composeReads b p f)

/-- Whether the last word of the owner's set begins a write cycle inside the NV memory (R108). -/
def Owner.startsCycle : Owner → Bool
  | .ctlAccountWrite | .ctlGeneralWrite | .postingWrite | .fillWrite => true
  | _ => false

/-- The memory's part of an access: a RAM write is stored and noted; a word for the NV store is handed to the memory, whose
cycle begins with the last word of the set (R108, R162, log 3, log 12). -/
def accessMemory (owner : Owner) (acc : WordAcc) (last : Bool) (b : Block) : Block :=
  match acc with
  | .read _ => b
  | .write a v =>
    if nvBase ≤ a then (if last && owner.startsCycle then b.setNvCycle (some b.nv.latch) else b)
    else noteWrite a v (b.setMem (writeWord b.mem a v))

/-- The word a read access returns as it is served (R154). -/
def accessData (acc : WordAcc) (b : Block) : Word :=
  match acc with
  | .read a => readWord b.mem a
  | .write _ _ => 0

/-- An access of a set is taken: the memory acts, and the port is busy with it until its completion (R160). -/
def serve (owner : Owner) (acc : WordAcc) (last : Bool) (got : List Word) (b : Block) : Block :=
  let data := accessData acc b
  let b' := accessMemory owner acc last b
  b'.setPath { b'.path with
    port := some { owner := owner, acc := acc, data := data, last := last,
                   got := match acc with | .read _ => got ++ [data] | .write _ _ => got } }

/-- What is left of a set once its next access is taken. -/
def restOf (s : WordSet) : Option Work → Option WordSet
  | none => none
  | some w => some { s with work := w }

/-- Take an access of the controller's set. -/
def takeController (s : WordSet) (b : Block) : Block :=
  match nextAcc b s.work with
  | none => b.setPath { b.path with ctlWait := none }
  | some (acc, rest) =>
    let b' := serve s.owner acc rest.isNone s.got b
    b'.setPath { b'.path with
      ctlWait := (restOf s rest).map (fun x => { x with got := (b'.path.port.map (·.got)).getD [] }) }

/-- Take an access of the set at the head of the part list: it has left the list as it is served. -/
def takePart (s : WordSet) (tail : List WordSet) (b : Block) : Block :=
  match nextAcc b s.work with
  | none => b.setPath { b.path with partList := tail }
  | some (acc, rest) =>
    let b' := serve s.owner acc rest.isNone s.got (b.setPath { b.path with partList := (restOf s rest).toList ++ tail })
    b'.setPath { b'.path with
      partList := ((restOf s rest).map (fun x => { x with got := (b'.path.port.map (·.got)).getD [] })).toList ++ tail }

/-- Take an access of the set at the head of the part list, if there is one. -/
def takeHead (b : Block) : Block :=
  match b.path.partList with
  | [] => b
  | s :: tail => takePart s tail b

/-- The condition for storing a guarded RAM word fails at an address (R156, R166, R130). -/
def Block.refusesStore (b : Block) (a : Nat) : Bool :=
  match decodeAddr b.path.straps a with
  | .settings _ => decide (b.stand.st ≠ .held)
  | .template t k => decide (1 ≤ k.val ∧ k.val ≤ 24 ∧ b.pages.useCount[t] ≠ 0)
  | _ => false

/-- The address of the controller's write that waits for the memory port and may no longer be stored: a held guarded write is
judged as it is taken (R156, R159). -/
def Block.waitingRefused (b : Block) : Option Nat :=
  match b.path.bus with
  | .memory (.write a _) => if b.refusesStore a then some a else none
  | _ => none

/-- The refused write leaves the bus and the port (R157). -/
def dropWaiting (a : Nat) (b : Block) : Block := refuse a (b.setPath { b.path with bus := .idle, ctlWait := none })

/-- A free port takes the waiting controller access, else the head of the part list (R160). Nothing is taken in reset. -/
def arbitrate (b : Block) : Block :=
  if b.inReset || b.path.port.isSome then b
  else
    match b.path.ctlWait with
    | some s =>
      match b.waitingRefused with
      | some a => takeHead (dropWaiting a b)
      | none => takeController s b
    | none => takeHead b

/-- A controller write to a guarded RAM word at a target: with the port free it is taken, and judged, in the access; with the port
busy it is held and judged as the port takes it (R156, R159, log 13). -/
def guardedWrite (t : Target) (v : Word) (b : Block) : Block :=
  let a := addrOf b.path.straps t
  if b.path.port.isNone && b.refusesStore a then refuse a b else memoryAccess (.write a v) b

/-! ## Free values -/

/-- The next free value is used up. -/
def drawFree (b : Block) : Block := b.setFreeCount (b.freeCount + 1)

/-! ## One event -/

/-- The outcome of an event that changes the block by `f`. The guide names no condition that stops the part (log 1). -/
def event (f : Block → Block) (s : State) : Host.Outcome State Fault Refusal := .next { s with part := f s.part }

end Sys2Proof.Machine
end

