-- ==== Sys2Proof/Machine/AccountPort.lean ====
section
/-! DEFINITION. Account Store Port (chapter 6): the NV claims, account records, the fill, and the end of every event. -/

namespace Sys2Proof.Machine

/-! ## Account records -/

/-- The 16-bit wrapping sum of words. -/
def sumWords (l : List Word) : Word := l.foldl (fun a w => a + w) 0

/-- The check word of words 0-6 (R105). -/
def checkWord (seven : List Word) : Word := ~~~ (sumWords seven)

/-- Word `k` of a record as read. -/
def recordWord (r : List Word) (k : Nat) : Word := r.getD k 0

/-- The state field of a record (R179). -/
def recordState (r : List Word) : Nat := bits (recordWord r 0) 8 8

/-- A record is sound: its check agrees and its state names OPEN or STOPPED (R105). -/
def recordSound (r : List Word) : Bool :=
  decide (recordWord r 7 = checkWord (r.take 7)) && (decide (recordState r = 1) || decide (recordState r = 2))

/-- The state is STOPPED. -/
def recordStopped (r : List Word) : Bool := decide (recordState r = 2)

/-- Rate class, balance and floor of a record (R186). -/
def recordRate (r : List Word) : Fin 4 := Fin.ofNat 4 (bits (recordWord r 0) 0 2)
def recordBalance (r : List Word) : Int := (amount (recordWord r 2) (recordWord r 1)).toInt
def recordFloor (r : List Word) : Int := (amount (recordWord r 4) (recordWord r 3)).toInt

/-- Words 0-6 with their check word (R105). -/
def withCheck (seven : List Word) : List Word := seven ++ [checkWord seven]

/-- The record a posting leaves (R97). -/
def postedRecord (r : List Word) (p : Posting) (day : Word) : List Word :=
  let bal := satAmount (recordBalance r + p.delta)
  let life := recordWord r 5
  withCheck [recordWord r 0, lowHalf bal, highHalf bal, recordWord r 3, recordWord r 4,
    (match p.kind with
      | .charge => satAdd life 1
      | .credit => word (life.toNat - 1)), day]

/-- The record a fill step leaves (R115). -/
def filledRecord (r : List Word) (opening : Amount) (day : Word) : List Word :=
  withCheck [if recordSound r then recordWord r 0 else 0x0100, lowHalf opening, highHalf opening,
    if recordSound r then recordWord r 3 else 0, if recordSound r then recordWord r 4 else 0, 0, day]

/-! ## Claims -/

/-- The port state as the account gate word shows it (R106): 3 is FILLING. -/
def portStateCode (n : Nv) : Nat := if n.fill = .filling then 3 else n.phase.code

/-- The port is free: no read, no write cycle, pair mark clear; in reset, and while a cycle begun before a reset still
runs, it takes no claim (R109, R117, R118). -/
def Block.nvFree (b : Block) : Bool :=
  !b.inReset && decide (b.nv.phase = .idle) && b.nv.serving.isNone && !b.nv.pair && b.nvCycle.isNone

/-- The reads of words 0 up to `n - 1` of a record. -/
def recordReads (a : Fin 128) (n : Nat) : List WordAcc := (List.range n).map (fun k => .read (accountAddr a k))

/-- The port begins a claim. -/
def beginClaim (c : Claim) (phase : NvPhase) (pair : Bool) (b : Block) : Block :=
  b.setNv { b.nv with phase := phase, serving := some c, pair := pair }

/-- The port has ended a claim. -/
def endClaim (b : Block) : Block := b.setNv { b.nv with phase := .idle, serving := none, pair := false, latch := [] }

/-- The words of a write cycle, named by the write-cycle latch (R108). -/
def latchWords (l : List (Nat × Word)) (b : Block) : Block := b.setNv { b.nv with phase := .writing, latch := l }

/-- The writes that hand the latched words to the memory. -/
def latchWrites (l : List (Nat × Word)) : List WordAcc := l.map (fun x => .write x.1 x.2)

/-- The account and word an account table address names (R104). -/
def accountOf (addr : Nat) : Fin 128 := Fin.ofNat 128 ((addr - nvBase) / 16)
def accountWordOf (addr : Nat) : Nat := (addr - nvBase) % 16 / 2

/-- Whether a controller write to the NV store is refused as the port takes it (R112, R113). -/
def Nv.refuses (n : Nv) : Bool := !n.gateOpen || decide (n.fill = .filling)

/-- A free port takes the controller's access (R111, R112, R113). -/
def takeControllerClaim (b : Block) : Block :=
  match b.path.bus with
  | .nvWait (.read a) =>
    waitAtPort .ctlNvRead [.read (evenAddr a)] (setBus (.nvTaken (.read a)) (beginClaim .ctlRead .reading false b))
  | .nvWait (.write a v) =>
    let e := evenAddr a
    if b.nv.refuses then refuse a (setBus .idle b)
    else if e < nvBase + 0x800 then
      if accountWordOf e = 7 then setBus .idle b
      else
        waitAtPort .ctlAccountRead (recordReads (accountOf e) 7)
          (setBus (.nvTaken (.write a v)) (beginClaim .ctlAccount .reading true b))
    else
      waitAtPort .ctlGeneralWrite [.write e v]
        (latchWords [(e, v)] (setBus (.nvTaken (.write a v)) (beginClaim .ctlGeneral .writing false b)))
  | _ => b

/-- Whether the head posting is offered (R95, R102, log 24). -/
def Block.postingOffered (b : Block) : Option (Fin 128) :=
  if b.charges.applying || decide (b.nv.fill = .filling) then none else b.charges.queue.head?.map (·.account)

/-- A free port with no controller access waiting takes the planning read, the fill step, or the posting (R109). -/
def takePartClaim (b : Block) : Block :=
  match b.nv.planClaim with
  | some a =>
    issue .planningRead (.words (recordReads a 8))
      (beginClaim .planning .reading false (b.setNv { b.nv with planClaim := none }))
  | none =>
    if b.nv.fillClaim then
      issue .fillRead (.words (recordReads (Fin.ofNat 128 b.nv.progress) 8))
        (beginClaim .fill .reading true (b.setNv { b.nv with fillClaim := false }))
    else
      match b.postingOffered with
      | some a =>
        issue .postingRead (.words (recordReads a 8))
          (beginClaim .posting .reading true (b.setCharges { b.charges with applying := true }))
      | none => b

/-- The port takes what it may take, in R109's order; so a waiting controller write to an account goes before a waiting posting,
of which R98 says that either may be taken first (the model's choice, log 43). -/
def nvTake (b : Block) : Block :=
  if b.nvFree then
    let b' := takeControllerClaim b
    if b'.nvFree then takePartClaim b' else b'
  else b

/-- A posting waits for the port, with no controller access before it. -/
def Block.postingWaits (b : Block) : Bool :=
  b.postingOffered.isSome && (match b.path.bus with | .nvWait _ => false | _ => true)

/-- A planning read's end frees the port: a posting that waits is taken now, or the claim of the next planning read, which arrives
in the same event, goes before it; the choice is free (R88, R109, log 40). -/
def portFreed (b : Block) : Block :=
  if b.postingWaits then (if Config.postingFirst b.freeCount then nvTake (drawFree b) else drawFree b) else b

/-- The end of an event: the Account Store Port takes a claim if it is free, then the arbiter an access (R109, R160,
log 24). -/
def settle (b : Block) : Block := arbitrate (nvTake b)

/-- A controller access to the NV store is a claim (R111, R162). -/
def nvAccess (a : Access) (b : Block) : Block := setBus (.nvWait a) b

/-! ## Write cycles -/

/-- The words of a write cycle are in the store (R108). -/
def storeWords (m : List Host.Cell) (l : List (Nat × Word)) : List Host.Cell :=
  l.foldl (fun m x => writeWord m x.1 x.2) m

/-- The memory's ready event: the cycle's words stand in the store. -/
def commitCycle (l : List (Nat × Word)) (b : Block) : Block := (b.setMem (storeWords b.mem l)).setNvCycle none

/-- Whether an access is one of the NV store. -/
def WordAcc.isNv : WordAcc → Bool
  | .read a => decide (nvBase ≤ a)
  | .write a _ => decide (nvBase ≤ a)

/-- The words of the running write cycle of claim `c`, when the memory can be ready: the last word has been handed over. -/
def readyCycle (c : Option Claim) (b : Block) : Option (List (Nat × Word)) :=
  if b.nv.serving = c ∧ !(b.path.port.any (fun s => s.acc.isNv)) then b.nvCycle else none

/-- The ready event of the write cycle of claim `c`, followed by `f`; nothing when no such cycle runs (log 1). -/
def onReady (c : Option Claim) (f : Block → Block) (b : Block) : Block :=
  match readyCycle c b with
  | none => b
  | some l => settle (f (commitCycle l b))

/-- The addresses of a record's words with their values. -/
def recordCycle (a : Fin 128) (r : List Word) : List (Nat × Word) := r.zipIdx.map (fun x => (accountAddr a x.2, x.1))

/-- A write cycle of a posting or fill step: its words join the part list (R108, R162). -/
def beginCycle (owner : Owner) (l : List (Nat × Word)) (b : Block) : Block :=
  issue owner (.words (latchWrites l)) (latchWords l b)

/-! ## Controller claims completing -/

/-- A controller NV read completes (R111). -/
def ctlNvReadDone (got : List Word) (b : Block) : Block := answer (got.headD 0) (setBus .idle (endClaim b))

/-- The read of a controller account write completes: the word and the check go to one write cycle (R112). -/
def accountReadDone (got : List Word) (b : Block) : Block :=
  match b.path.bus with
  | .nvTaken (.write a v) =>
    let e := evenAddr a
    let l := [(e, v), (accountAddr (accountOf e) 7, checkWord (got.set (accountWordOf e) v))]
    waitAtPort .ctlAccountWrite (latchWrites l) (latchWords l b)
  | _ => b

/-! ## The gate and the fill -/

/-- OPEN (R106). -/
def openOp (b : Block) : Block := b.setNv { b.nv with gateOpen := true }

/-- The fill has stopped or is done (R116). -/
def endFill (st : FillState) (b : Block) : Block :=
  raise .account (b.setNv { b.nv with fill := st, stopping := false, fillClaim := false })

/-- CLOSE (R106, R116): a running fill stops, after the step in progress if there is one. -/
def closeOp (b : Block) : Block :=
  let b' := b.setNv { b.nv with gateOpen := false }
  if b.nv.fill = .filling then
    if b.nv.serving = some .fill then b'.setNv { b'.nv with stopping := true } else endFill .stopped b'
  else b'

/-- Whether FILL is accepted (R114). -/
def Block.fillAccepted (b : Block) : Bool :=
  b.nv.gateOpen && decide (b.stand.st = .held) && b.charges.queue.isEmpty && !decide (b.nv.fill = .filling)

/-- FILL (R114). -/
def fillOp (b : Block) : Block :=
  if b.fillAccepted then
    b.setNv { b.nv with fill := .filling, fillAmount := b.nv.opening, progress := 0, stopping := false, fillClaim := true }
  else refuseAt (.stand 27) b

/-- A write of one half of the opening amount (R114). -/
def openingWrite (high : Bool) (v : Word) (b : Block) : Block :=
  b.setNv { b.nv with
    opening := if high then amount v (lowHalf b.nv.opening) else amount (highHalf b.nv.opening) v }

/-- The record read of a fill step completes (R115). -/
def fillReadDone (got : List Word) (b : Block) : Block :=
  beginCycle .fillWrite
    (recordCycle (Fin.ofNat 128 b.nv.progress) (filledRecord got b.nv.fillAmount b.stand.day)) b

/-- The write cycle of a fill step has ended (R115, R116). -/
def fillStepDone (b : Block) : Block :=
  let b' := endClaim b
  let p := b.nv.progress + 1
  let b2 := b'.setNv { b'.nv with progress := p }
  if p = 128 then endFill .done b2
  else if b.nv.stopping then endFill .stopped b2
  else b2.setNv { b2.nv with fillClaim := true }

/-! ## Commands -/

/-- OPEN (R106). -/
def execOpenGate (s : State) : Host.Outcome State Fault Refusal := event (writeAt (.stand 26) 1 openOp) s

/-- CLOSE (R106, R116). -/
def execCloseGate (s : State) : Host.Outcome State Fault Refusal :=
  event (fun b => settle (writeAt (.stand 26) 2 closeOp b)) s

/-- FILL (R114). -/
def execFill (s : State) : Host.Outcome State Fault Refusal := event (fun b => settle (writeAt (.stand 27) 1 fillOp b)) s

/-- OPENING_AMOUNT_WRITE (R114). -/
def execOpeningAmountWrite (high : Bool) (v : Word) (s : State) : Host.Outcome State Fault Refusal :=
  event (writeAt (.stand (if high then 29 else 28)) v (openingWrite high v)) s

/-- CONTROLLER_NV_READ (R111). -/
def execControllerNvRead (w : Fin 4096) (s : State) : Host.Outcome State Fault Refusal :=
  event (fun b => settle (onBus (.read (nvBase + 2 * w.val)) (nvAccess (.read (nvBase + 2 * w.val))) b)) s

/-- ACCOUNT_TABLE_WRITE (R112). -/
def execAccountTableWrite (a : Fin 128) (k : Fin 8) (v : Word) (s : State) : Host.Outcome State Fault Refusal :=
  event (fun b => settle (onBus (.write (accountAddr a k.val) v) (nvAccess (.write (accountAddr a k.val) v)) b)) s

/-- GENERAL_AREA_WRITE (R113). -/
def execGeneralAreaWrite (w : Fin 4096) (v : Word) (s : State) : Host.Outcome State Fault Refusal :=
  event (fun b => settle (onBus (.write (nvBase + 2 * w.val) v) (nvAccess (.write (nvBase + 2 * w.val) v)) b)) s

/-- FILL_STEP_COMPLETE (R115, R116). -/
def execFillStepComplete (s : State) : Host.Outcome State Fault Refusal := event (onReady (some .fill) fillStepDone) s

/-- ACCOUNT_WRITE_COMPLETE (R112): the held access completes. -/
def execAccountWriteComplete (s : State) : Host.Outcome State Fault Refusal :=
  event (onReady (some .ctlAccount) (fun b => setBus .idle (endClaim b))) s

/-- GENERAL_AREA_WRITE_COMPLETE (R113): the held access completes. -/
def execGeneralAreaWriteComplete (s : State) : Host.Outcome State Fault Refusal :=
  event (onReady (some .ctlGeneral) (fun b => setBus .idle (endClaim b))) s

/-- NV_READY_AFTER_RESET (R118): the port begins taking claims. -/
def execNvReadyAfterReset (s : State) : Host.Outcome State Fault Refusal := event (onReady none id) s

end Sys2Proof.Machine
end

