-- ==== Sys2Proof/Machine/PageUnit.lean ====
section
/-! DEFINITION. Page Unit and Label Engine (chapter 7): pages, frames, the print queue, frame selection, the discard walk,
and the credits that spoiled frames give (R91, R94). -/

namespace Sys2Proof.Machine

/-! ## Pages and frames -/

/-- The frame at a position of a page. -/
def Block.frame (b : Block) (p : Fin 4) (f : Fin 72) : Frame := b.pages.pages[p].frames[f]

/-- A change of one page. -/
def withPage (p : Fin 4) (g : Page → Page) (b : Block) : Block :=
  b.setPages { b.pages with pages := b.pages.pages.set p (g b.pages.pages[p]) }

/-- A change of one frame of the Page Unit's own copy. -/
def withFrame (p : Fin 4) (f : Fin 72) (g : Frame → Frame) (b : Block) : Block :=
  withPage p (fun pg => { pg with frames := pg.frames.set f (g pg.frames[f]) }) b

/-- The label word of a frame (R185). -/
def labelWord (fr : Frame) : Word := word (fr.label.code + fr.attempts * 16 + templateField fr.template * 256)

/-- A frame changes and its label word is written (R119, R127, R143). -/
def changeFrame (p : Fin 4) (f : Fin 72) (g : Frame → Frame) (b : Block) : Block :=
  let b' := withFrame p f g b
  issuePage [(.frame p f 3, labelWord (b'.frame p f))] b'

/-- DUE, SENT or UNSURE: the frame awaits its label (R119). -/
def LabelState.awaits : LabelState → Bool
  | .due | .sent | .unsure => true
  | _ => false

/-- DUE or UNSURE: the frame may be spoiled (R125, R128). -/
def LabelState.spoilable : LabelState → Bool
  | .due | .unsure => true
  | _ => false

/-- The frames awaiting label of a page (R119). -/
def awaiting (pg : Page) : Nat := (pg.frames.toList.filter (fun f => f.label.awaits)).length

/-- Whether some frame of a page satisfies a test of its label state. -/
def Page.anyLabel (pg : Page) (t : LabelState → Bool) : Bool := pg.frames.toList.any (fun f => t f.label)

/-- The first DUE frame of a page (R134). -/
def Page.firstDue (pg : Page) : Option (Fin 72) := (List.finRange 72).find? (fun f => decide (pg.frames[f].label = .due))

/-- The page state changes and is written (R119). -/
def setPageState (p : Fin 4) (st : PageState) (b : Block) : Block :=
  issuePage [(.header p 0, word st.code)] (withPage p (fun pg => { pg with st := st }) b)

/-- The return position changes and is written (R122). -/
def setPosition (p : Fin 4) (k : Nat) (b : Block) : Block :=
  issuePage [(.header p 5, word k)] (withPage p (fun pg => { pg with position := k }) b)

/-- The use count of a frame's template changes (R131). -/
def withUseCount (t : Option (Fin 16)) (g : Nat → Nat) (b : Block) : Block :=
  match t with
  | none => b
  | some t => b.setPages { b.pages with useCount := b.pages.useCount.set t (g b.pages.useCount[t]) }

/-- The print queue as a whole. -/
def setPrintQueue (q : List (Fin 4)) (b : Block) : Block := b.setPages { b.pages with printQueue := q }

/-- The walk queue and the walk's position as a whole. -/
def setWalk (q : List (Fin 4)) (k : Nat) (b : Block) : Block := b.setPages { b.pages with walkQueue := q, walkPos := k }

/-! ## The print queue -/

/-- A page takes place `k` of the queue, if it is not there yet (R122). -/
def renumber (b : Block) (x : Fin 4 × Nat) : Block :=
  if b.pages.pages[x.1].position = x.2 + 1 then b else setPosition x.1 (x.2 + 1) b

/-- A page leaves the print queue: the pages behind it move up, its own position becomes 0 (R122, log 31). -/
def leaveQueue (p : Fin 4) (b : Block) : Block :=
  let q := b.pages.printQueue.filter (fun x => decide (x ≠ p))
  setPosition p 0 (q.zipIdx.foldl renumber (setPrintQueue q b))

/-- The head page of the print queue becomes FREE when it is complete, and the new head is tested in turn (R123). -/
def completeHead : Nat → Block → Block
  | 0, b => b
  | fuel + 1, b =>
    match b.pages.printQueue with
    | [] => b
    | p :: _ =>
      if b.pages.pages[p].anyLabel LabelState.awaits then b
      else completeHead fuel (raise .page (leaveQueue p (setPageState p .free b)))

/-- The test of the head page (R123): at most four pages stand in the queue. -/
def testHead (b : Block) : Block := completeHead 4 b

/-! ## Selection (R134, R140) -/

/-- A frame is selected: it is SENT, the link is SENDING it, its composition reads are issued. -/
def sendFrame (p : Fin 4) (f : Fin 72) (b : Block) : Block :=
  let b1 := changeFrame p f (fun fr => { fr with label := .sent, attempts := min 3 (fr.attempts + 1) }) b
  let b2 := b1.setLink { b1.link with st := .sending, message := some (p, f), bytes := [], next := 0 }
  issue (.compose p f) (.compose p f) (b2.setPages { b2.pages with composing := true })

/-- The Label Engine's selection test (R134). -/
def selectFrame (b : Block) : Block :=
  if b.link.st = .idle then
    match b.pages.printQueue with
    | [] => b
    | p :: _ =>
      match b.pages.pages[p].firstDue with
      | none => b
      | some f => sendFrame p f b
  else b

/-! ## Credits -/

/-- Room in the posting queue (R93, R94). -/
def Block.hasRoom (b : Block) : Bool := decide (b.charges.queue.length + b.charges.reserved < Config.postingPlaces)

/-- A posting joins the queue at the tail (R92). -/
def queuePosting (p : Posting) (b : Block) : Block := b.setCharges { b.charges with queue := b.charges.queue ++ [p] }

/-- A frame is spoiled (R125): its state, its template's use count, its CREDIT posting. -/
def spoilFrame (p : Fin 4) (f : Fin 72) (b : Block) : Block :=
  let fr := b.frame p f
  queuePosting { account := fr.account, delta := fr.amount, kind := .credit, page := p, frame := f }
    (withUseCount fr.template (fun n => n - 1) (changeFrame p f (fun fr => { fr with label := .spoiled }) b))

/-! ## The discard walk (R125) -/

/-- The walk of the head page of the walk queue has passed its last position. -/
def endWalk (p : Fin 4) (rest : List (Fin 4)) (b : Block) : Block :=
  raise .page (setWalk rest (if rest.isEmpty then 0 else 1) (setPageState p .free b))

/-- The walk goes on until it waits for room or the walk queue is empty. -/
def walkOn : Nat → Block → Block
  | 0, b => b
  | fuel + 1, b =>
    match b.pages.walkQueue with
    | [] => b
    | p :: rest =>
      let k := b.pages.walkPos
      if b.pages.pages[p].used < k then walkOn fuel (endWalk p rest b)
      else
        let f := Fin.ofNat 72 (k - 1)
        let step := setWalk (p :: rest) (k + 1)
        if (b.frame p f).label.spoilable then
          if b.hasRoom then walkOn fuel (step (spoilFrame p f b)) else b
        else walkOn fuel (step b)

/-- The walk as far as it goes: four pages of 72 positions and an end each. -/
def walk (b : Block) : Block := walkOn 292 b

/-! ## The page commands -/

/-- RETURN (R121). -/
def returnOp (p : Fin 4) (b : Block) : Block :=
  if b.pages.pages[p].st = .exposed then
    if b.pages.pages[p].anyLabel LabelState.spoilable then
      let b1 := setPageState p .returned b
      let q := b1.pages.printQueue ++ [p]
      selectFrame (testHead (setPosition p q.length (setPrintQueue q b1)))
    else raise .page (setPageState p .free b)
  else refuseAt (.header p 7) b

/-- The link is SENDING or AWAITING a frame of the page (R124). -/
def onWire (b : Block) (p : Fin 4) : Bool :=
  (decide (b.link.st = .sending) || decide (b.link.st = .awaiting)) && b.link.message.any (fun m => decide (m.1 = p))

/-- A page joins the tail of the walk queue; its walk begins when the queue was empty (R124). -/
def joinWalk (p : Fin 4) (b : Block) : Block :=
  if b.pages.walkQueue.isEmpty then walk (setWalk [p] 1 b)
  else setWalk (b.pages.walkQueue ++ [p]) b.pages.walkPos b

/-- DISCARD (R124). -/
def discardOp (p : Fin 4) (b : Block) : Block :=
  let st := b.pages.pages[p].st
  if (st = .exposed ∨ st = .returned) ∧ onWire b p = false then
    let b1 := setPageState p .discarding b
    let b2 := if st = .returned then testHead (leaveQueue p b1) else b1
    selectFrame (joinWalk p b2)
  else refuseAt (.header p 7) b

/-! ## The label commands -/

/-- Whether SPOIL is accepted (R128). -/
def spoilAccepted (b : Block) (p : Fin 4) (f : Fin 72) : Bool :=
  let pg := b.pages.pages[p]
  (decide (pg.st = .current) || decide (pg.st = .exposed) || decide (pg.st = .returned))
    && decide (f.val + 1 ≤ pg.used) && (b.frame p f).label.spoilable && b.hasRoom

/-- SPOIL (R128). -/
def spoilOp (p : Fin 4) (f : Fin 72) (b : Block) : Block :=
  if spoilAccepted b p f then selectFrame (testHead (spoilFrame p f b)) else refuseAt (.frame p f 3) b

/-- Whether REPRINT and ACCEPT are accepted (R129). -/
def settleAccepted (b : Block) (p : Fin 4) (f : Fin 72) : Bool :=
  decide (b.pages.pages[p].st = .returned) && decide ((b.frame p f).label = .unsure)

/-- REPRINT (R129). -/
def reprintOp (p : Fin 4) (f : Fin 72) (b : Block) : Block :=
  if settleAccepted b p f then selectFrame (changeFrame p f (fun fr => { fr with label := .due }) b)
  else refuseAt (.frame p f 3) b

/-- A frame becomes PRINTED, by ACCEPT or the printer's acknowledgement (R127). -/
def printFrame (p : Fin 4) (f : Fin 72) (b : Block) : Block :=
  testHead (withUseCount (b.frame p f).template (fun n => n - 1) (changeFrame p f (fun fr => { fr with label := .printed }) b))

/-- ACCEPT (R129). -/
def acceptOp (p : Fin 4) (f : Fin 72) (b : Block) : Block :=
  if settleAccepted b p f then selectFrame (printFrame p f b) else refuseAt (.frame p f 3) b

/-- A controller write to a template word (R130, log 13): the use count is dropped, a line word is guarded, the rest is plain. -/
def templateWrite (t : Fin 16) (k : Fin 32) (v : Word) (b : Block) : Block :=
  if k.val = 0 then b else guardedWrite (.template t k) v b

/-! ## Commands -/

/-- RETURN (R121). -/
def execReturn (p : Fin 4) (s : State) : Host.Outcome State Fault Refusal :=
  event (fun b => settle (writeAt (.header p 7) 1 (returnOp p) b)) s

/-- DISCARD (R124). -/
def execDiscard (p : Fin 4) (s : State) : Host.Outcome State Fault Refusal :=
  event (fun b => settle (writeAt (.header p 7) 2 (discardOp p) b)) s

/-- REPRINT (R129). -/
def execReprint (p : Fin 4) (f : Fin 72) (s : State) : Host.Outcome State Fault Refusal :=
  event (fun b => settle (writeAt (.frame p f 3) 2 (reprintOp p f) b)) s

/-- ACCEPT (R129). -/
def execAccept (p : Fin 4) (f : Fin 72) (s : State) : Host.Outcome State Fault Refusal :=
  event (fun b => settle (writeAt (.frame p f 3) 3 (acceptOp p f) b)) s

/-- TEMPLATE_LINE_WRITE (R130). -/
def execTemplateLineWrite (t : Fin 16) (k : Fin 32) (v : Word) (s : State) : Host.Outcome State Fault Refusal :=
  event (fun b => settle (writeAt (.template t k) v (templateWrite t k v) b)) s

end Sys2Proof.Machine
end

