-- ==== Sys2Proof/Machine/FilmTransport.lean ====
section
/-! DEFINITION. Film Transport (chapter 4): film commands, motions, and the page at load and unload. -/

namespace Sys2Proof.Machine

/-! ## Motions -/

/-- A film command has come to its end, with a state of the film (R64). -/
def filmSettles (st : FilmState) (interrupted : Motion) (b : Block) : Block :=
  raise .film (b.setFilm { b.film with st := st, interrupted := interrupted, running := false })

/-- An advance begins (R68). -/
def beginAdvance (st : FilmState) (b : Block) : Block :=
  let s : Settings := b.stand.latched
  b.setFilm { b.film with
    st := st, pulses := 0, pulsesPerFrame := s.pulses, limit := s.advanceLimit, elapsed := 0 }

/-- Whether an advance runs. -/
def Film.advances (f : Film) : Bool := decide (f.st = .leader) || decide (f.st = .advancing)

/-- A motion with a limit runs: an advance or a rewind (R69, R75). -/
def Film.moves (f : Film) : Bool := f.advances || decide (f.st = .rewinding)

/-- The limit of the motion in progress has been counted out (R69). -/
def Film.limitOut (f : Film) : Bool := decide (f.limit ≤ f.elapsed)

/-- One increment of the stand clock counts towards the limit of the motion in progress (R69). -/
def Film.tick (f : Film) : Film := if f.moves then { f with elapsed := min f.limit (f.elapsed + 1) } else f

/-- The page of the roll that has been rewound (R76). -/
def handOnPage (b : Block) : Block :=
  match b.film.page with
  | none => b
  | some p => setPageState p (if b.film.used = 0 then .free else .exposed) b

/-- The rewind completion (R76). -/
def completeRewind (b : Block) : Block :=
  let b' := handOnPage b
  filmSettles .empty .none (b'.setFilm { b'.film with length := 0, used := 0, page := none, leaderLeft := 0 })

/-- A rewind begins, and completes at once when the switch already reads closed (R75). -/
def beginRewind (b : Block) : Block :=
  let s : Settings := b.stand.latched
  let b' := b.setFilm { b.film with st := .rewinding, limit := s.rewindLimit, elapsed := 0 }
  if b.film.switchClosed then completeRewind b' else b'

/-- The command a film command leaves to be read, with its running mark (R64). -/
def filmCommand (c : FilmCommand) (b : Block) : Block := b.setFilm { b.film with lastCommand := c, running := true }

/-! ## LOAD -/

/-- The gate is EMPTY or DONE. -/
def Block.gateQuiet (b : Block) : Bool := decide (b.gate.st = .empty) || decide (b.gate.st = .done)

/-- The lowest-numbered FREE page (R66). -/
def freePage (b : Block) : Option (Fin 4) := (List.finRange 4).find? (fun p => decide (b.pages.pages[p].st = .free))

/-- The page a LOAD takes, if the LOAD is accepted (R66). -/
def loadPage (b : Block) (length : Nat) : Option (Fin 4) :=
  if b.film.st = .empty ∧ 12 ≤ length ∧ length ≤ 72 ∧ b.gateQuiet then freePage b else none

/-- The roll counter after one more roll (R66). -/
def nextRoll (r : Word) : Word := if r = 65535 then 1 else r + 1

/-- The header words of a LOAD (R77): words 0-5. Word 6, which is live, and the command field are not written (the model's choice,
log 42). -/
def loadHeader (p : Fin 4) (roll : Word) (length : Nat) (day : Word) : List (Target × Word) :=
  [(.header p 0, word PageState.current.code), (.header p 1, roll), (.header p 2, word length), (.header p 3, 0),
    (.header p 4, day), (.header p 5, 0)]

/-- The Page Unit's part of a LOAD: the page, its header writes, then the clearing of its 72 records (R66, R77, R78). -/
def takePage (p : Fin 4) (length : Nat) (b : Block) : Block :=
  let roll := nextRoll b.pages.rollCounter
  let b1 :=
    withPage p (fun _ => { st := .current, roll := roll, length := length, used := 0, day := b.stand.day, position := 0,
                           frames := Vector.replicate 72 Frame.start })
      (b.setPages { b.pages with rollCounter := roll })
  issue .pageWrites (.clear p 0) (issuePage (loadHeader p roll length b.stand.day) b1)

/-- The leader is begun (R67). -/
def beginLeader (b : Block) : Block :=
  let s : Settings := b.stand.latched
  let b' := b.setFilm { b.film with leaderLeft := s.leader }
  if s.leader = 0 then filmSettles .ready b'.film.interrupted b' else beginAdvance .leader b'

/-- LOAD (R66). -/
def loadOp (length : Nat) (b : Block) : Block :=
  match loadPage b length with
  | none => refuseAt (.stand 22) b
  | some p =>
    let b1 := filmCommand .load (takePage p length b)
    beginLeader (b1.setFilm { b1.film with length := length, used := 0, page := some p })

/-! ## UNLOAD and RETRY -/

/-- Whether UNLOAD is accepted (R74). -/
def unloadAccepted (b : Block) : Bool :=
  match b.film.st with
  | .empty => true
  | .ready | .ended | .jammed => b.gateQuiet || decide (b.gate.st = .metering)
  | _ => false

/-- UNLOAD (R74, log 14). -/
def unloadOp (b : Block) : Block :=
  if unloadAccepted b then
    let b' := filmCommand .unload b
    beginRewind
      (if b.film.st = .jammed then b'.setFilm { b'.film with interrupted := .rewind } else b')
  else refuseAt (.stand 22) b

/-- RETRY (R72). -/
def retryOp (b : Block) : Block :=
  if b.film.st = .jammed then
    let b' := filmCommand .retry b
    match b.film.interrupted with
    | .leaderAdvance => beginAdvance .leader b'
    | .frameAdvance => beginAdvance .advancing b'
    | .rewind => beginRewind b'
    | .none => b
  else refuseAt (.stand 22) b

/-! ## Events of the film -/

/-- The end-of-film switch closes (R75). -/
def switchClosing (b : Block) : Block :=
  let b' := b.setFilm { b.film with switchClosed := true }
  if b.film.st = .rewinding then completeRewind b' else b'

/-- The rewind limit runs out (R75). -/
def rewindTimeoutOp (b : Block) : Block :=
  if b.film.st = .rewinding ∧ b.film.limitOut then filmSettles .jammed .rewind b else b

/-- The level of the end-of-film switch at the event (R75, log 7). -/
def senseSwitch (closed : Bool) (b : Block) : Block := b.setFilm { b.film with switchClosed := closed }

/-! ## Commands -/

/-- LOAD (R66). -/
def execLoad (length : BitVec 8) (s : State) : Host.Outcome State Fault Refusal :=
  event (fun b => settle (writeAt (.stand 22) (word (256 + length.toNat)) (loadOp length.toNat) b)) s

/-- UNLOAD (R74). -/
def execUnload (closed : Bool) (s : State) : Host.Outcome State Fault Refusal :=
  event (fun b => settle (writeAt (.stand 22) 512 unloadOp (senseSwitch closed b))) s

/-- RETRY (R72). -/
def execRetry (closed : Bool) (s : State) : Host.Outcome State Fault Refusal :=
  event (fun b => settle (writeAt (.stand 22) 768 retryOp (senseSwitch closed b))) s

/-- END_OF_FILM_SWITCH_CLOSING (R75). -/
def execEndOfFilmSwitchClosing (s : State) : Host.Outcome State Fault Refusal :=
  event (fun b => settle (switchClosing b)) s

end Sys2Proof.Machine
end

