-- ==== Sys2Proof/Machine/OrderTable.lean ====
section
/-! DEFINITION. Order Table (chapter 1): write-backs, the slot lock, base reads. -/

namespace Sys2Proof.Machine

/-! ## Write-backs -/

/-- The address of result word 7 + i of a slot. -/
def resultAddr (b : Block) (n : Fin 24) (i : Fin 9) : Nat := addrOf b.path.straps (.order n (Fin.ofNat 16 (i.val + 7)))

/-- One word write for each covered word, in ascending word order (R11). -/
def coveredWrites (b : Block) (n : Fin 24) (ws : ResultWords) : List WordAcc :=
  (List.finRange 9).filterMap (fun i => ws[i].map (fun v => .write (resultAddr b n i) v))

/-- The word writes of a write-back join the part list. -/
def putWriteBack (n : Fin 24) (ws : ResultWords) (notice : Bool) (b : Block) : Block :=
  issue (.writeBack n notice) (.words (coveredWrites b n ws)) b

/-- One write-back more counts as issued for the slot, so that its mark is set (R11). -/
def countWriteBack (n : Fin 24) (b : Block) : Block := withShadow n (fun s => { s with writeBacks := s.writeBacks + 1 }) b

/-- A write-back is issued (R11). -/
def issueWriteBack (n : Fin 24) (ws : ResultWords) (notice : Bool) (b : Block) : Block :=
  putWriteBack n ws notice (countWriteBack n b)

/-- New covered words over held ones (R14). -/
def mergeWords (old new : ResultWords) : ResultWords := Vector.ofFn (fun i => new[i].or old[i])

/-- The held write-back after one more is formed (R14). -/
def mergeHeld (old : Option HeldWriteBack) (ws : ResultWords) (notice : Bool) : HeldWriteBack :=
  match old with
  | none => { words := ws, notice := notice }
  | some h => { words := mergeWords h.words ws, notice := h.notice || notice }

/-- A write-back is formed: held when its slot is locked, issued otherwise (R11, R14). -/
def formWriteBack (n : Fin 24) (ws : ResultWords) (notice : Bool) (b : Block) : Block :=
  match b.orders.lock with
  | some l =>
    if l.slot = n then b.setOrders { b.orders with lock := some { l with held := some (mergeHeld l.held ws notice) } }
    else issueWriteBack n ws notice b
  | none => issueWriteBack n ws notice b

/-- The last word write of a write-back completes (R11, R12). -/
def writeBackDone (n : Fin 24) (notice : Bool) (b : Block) : Block :=
  let b' := withShadow n (fun s => { s with writeBacks := s.writeBacks - 1 }) b
  if notice then raise .order b' else b'

/-! ## The lock -/

/-- The lock as a whole. -/
def setLock (l : Option Lock) (b : Block) : Block := b.setOrders { b.orders with lock := l }

/-- The lock is released with the held write-back written (R15). -/
def releaseLock (b : Block) : Block :=
  match b.orders.lock with
  | none => b
  | some l =>
    match l.held with
    | none => setLock none b
    | some h => issueWriteBack l.slot h.words h.notice (setLock none b)

/-- The lock of the slot is released with the held write-back discarded (R16). -/
def discardLock (n : Fin 24) (b : Block) : Block :=
  if b.locked n then
    withShadow n (fun s => { s with lastServed := b.ram (.order n 7), served := b.ram (.order n 8) }) (setLock none b)
  else b

/-- The control word of a slot as a read shows it (R4, R183). -/
def controlWord (b : Block) (n : Fin 24) : Word :=
  let s := b.shadow n
  word (s.code.code + s.priority.toNat * 16 + flagBit (b.mark n) * 256 + flagBit (b.locked n) * 512)

/-- Whether a read of the slot's word 0 takes the lock (R13). -/
def mayLock (b : Block) (n : Fin 24) : Bool :=
  decide ((b.shadow n).code ≠ .idle) && decide (1 ≤ (b.shadow n).served.toNat) && !b.mark n

/-- A controller read of a slot's word 0 (R4, R13): another slot's lock is released, this slot's is kept, or taken if the
slot may be locked. -/
def orderControlRead (n : Fin 24) (b : Block) : Block :=
  let b' :=
    if b.locked n then b
    else
      let b1 := releaseLock b
      if mayLock b1 n then setLock (some { slot := n, held := none }) b1 else b1
  answer (controlWord b' n) b'

/-- What a write of word 0 makes of the shadow's code and priority (R5). -/
def takeControl (v : Word) (s : Shadow) : Shadow :=
  { s with code := if bits v 0 3 = 1 then .opened else .idle, priority := BitVec.ofNat 4 (bits v 4 4) }

/-- The Order Table's part of a write of word 0 (R5, R16); the deactivation follows (R17). -/
def orderControlTake (n : Fin 24) (v : Word) (b : Block) : Block :=
  let b' := withShadow n (takeControl v) (discardLock n b)
  if bits v 0 3 ≤ 1 then b' else refuseAt (.order n 0) b'

/-! ## Halt and skip write-backs (R10) -/

/-- The words a halt or skip write-back covers: a halt has a time stamp. -/
def passWords (reason : Reason) (stamp : Option Word) (base : Word) : ResultWords :=
  #v[none, none, none, none, none, none, stamp, some (word reason.code), some (satAdd base 1)]

/-- Whether an owner is a base read of the slot. -/
def Owner.isBaseOf (n : Fin 24) : Owner → Bool
  | .skipBase r => decide (r.slot = n)
  | _ => false

/-- Whether a base read of the slot is outstanding. -/
def baseOutstanding (b : Block) (n : Fin 24) : Bool :=
  b.path.port.any (fun s => s.owner.isBaseOf n) || b.path.partList.any (fun s => s.owner.isBaseOf n)

/-- Something waits behind the outstanding base read of its slot. -/
def defer (d : Deferred) (b : Block) : Block := b.setOrders { b.orders with deferred := b.orders.deferred ++ [d] }

/-- The base read of a halt or skip write-back is issued; for a slot that is not locked it counts as issued (R10). -/
def issueBase (n : Fin 24) (reason : Reason) (stamp : Option Word) (b : Block) : Block :=
  issue (.skipBase { slot := n, reason := reason, stamp := stamp, counted := !b.locked n }) (.words [.read (resultAddr b n 8)])
    (if b.locked n then b else countWriteBack n b)

/-- A halt or skip write-back is formed, at once when the held write-back gives its base (R10, log 16). -/
def formPass (n : Fin 24) (reason : Reason) (stamp : Option Word) (b : Block) : Block :=
  match (heldWords b n)[8] with
  | some base => formWriteBack n (passWords reason stamp base) stamp.isSome b
  | none => if baseOutstanding b n then defer (.base n reason stamp) b else issueBase n reason stamp b

/-- A slot is passed over with a reason, its code kept: a skip (R10). -/
def skipOrder (n : Fin 24) (reason : Reason) (b : Block) : Block := formPass n reason none b

/-- A slot is halted for its setup (R10, R28). -/
def haltOrder (n : Fin 24) (b : Block) : Block :=
  formPass n .badSetup (some b.stand.clock) (withShadow n (fun s => { s with code := .halted }) b)

/-- A completed base read gives its write-back: the word writes of one that counts already, else it is held or issued. -/
def formFromBase (r : BaseRead) (base : Word) (b : Block) : Block :=
  let ws := passWords r.reason r.stamp base
  if r.counted then putWriteBack r.slot ws r.stamp.isSome b else formWriteBack r.slot ws r.stamp.isSome b

/-! ## Commands -/

/-- ORDER_CONTROL_READ (R13). -/
def execOrderControlRead (n : Fin 24) (s : State) : Host.Outcome State Fault Refusal :=
  event (fun b => arbitrate (readAt (.order n 0) (orderControlRead n) b)) s

end Sys2Proof.Machine
end

