-- ==== Sys2Proof/Machine/GateEngine.lean ====
section
/-! DEFINITION. Gate Engine, Exposure Unit and the Charge Unit's judgement (chapters 2, 3 and 5): how a cycle starts, is
planned and ends. -/

namespace Sys2Proof.Machine

/-! ## The end of a cycle -/

/-- The withdraw-pending or the reset-pending mark is set. -/
def Gate.ending (g : Gate) : Bool := g.withdrawPending || g.resetPending

/-- The gate is METERING, PLANNING or SERVING. -/
def Gate.inCycle (g : Gate) : Bool :=
  match g.st with
  | .metering | .planning | .serving => true
  | _ => false

/-- The stand reaches HELD (R168, R170, R175). -/
def standHeld (b : Block) : Block := raise .stand (b.setStand { b.stand with st := .held })

/-- A soft reset completes (R170); the last step's values stand (log 37). -/
def completeSoftReset (b : Block) : Block :=
  let b1 := releaseLock (b.setGate { b.gate with st := .empty, resetPending := false })
  let b2 := b1.setStand { b1.stand with flags := 0, softReset := false }
  standHeld b2

/-- What the stand does when the gate reaches DONE (R168, R169). -/
def standAfterCycle (b : Block) : Block :=
  if b.stand.softReset then completeSoftReset b
  else if b.stand.st = .holding then standHeld b
  else b

/-- A change of the outcome record. -/
def withOutcome (f : OutcomeRecord → OutcomeRecord) (b : Block) : Block :=
  b.setGate { b.gate with outcome := f b.gate.outcome }

/-- The cycle ends with an outcome (2.6); the last step's values stand (log 37). -/
def endCycle (oc : OutcomeCode) (b : Block) : Block :=
  let b1 :=
    b.setGate { b.gate with st := .done, outcome := { b.gate.outcome with code := oc }, withdrawPending := false,
                            resetPending := false, visiting := none, active := none, result := none }
  standAfterCycle (raise .gate b1)

/-! ## The result copy at the end of an entry -/

/-- The first frame word after an entry whose first exposed frame is `first` (R9, R178). -/
def firstFrameAfter (old : Word) (first : Option (Fin 4 × Fin 72)) : Word :=
  match first with
  | some (p, f) => if bits old 0 8 = 0 then firstFrameWord p f else old
  | none => old

/-- The completed result copy (R9): result word 7 + i is entry i; `ref` is the gate reference of an entry that is
SERVED, none for the other endings. -/
def completeResult (r : Vector Word 9) (ref : Option Word) (exposed charged : Nat) (first : Option (Fin 4 × Fin 72))
    (clock : Word) (reason : Reason) : Vector Word 9 :=
  let sum := amount r[4] r[3] + BitVec.ofNat 32 charged
  #v[ref.getD r[0], if ref.isSome then satAdd r[1] 1 else r[1], satAdd r[2] exposed, lowHalf sum, highHalf sum,
    firstFrameAfter r[5] first, clock, word reason.code, r[8]]

/-- The code of a slot at the end of its entry (R2, R35). -/
def codeAfter (served : Bool) (limit : BitVec 8) (count : Word) : OrderCode :=
  if served then (if limit ≠ 0 ∧ limit.toNat ≤ count.toNat then .filled else .opened) else .halted

/-- The Order Table takes the end of an entry: code, last served reference and slides served at once, and a service
write-back (R7, R9, R10). -/
def takeResult (n : Fin 24) (code : OrderCode) (r : Vector Word 9) (b : Block) : Block :=
  formWriteBack n (r.map some) true
    (withShadow n (fun s => { s with code := code, lastServed := r[0], served := r[1] }) b)

/-- The ACTIVE entry's order at its end; a deactivated entry hands nothing over (R37). -/
def closeOrder (a : ActiveOrder) (e : Entry) (reason : Reason) (b : Block) : Block :=
  if e.deactivated then b
  else
    match b.gate.result with
    | none => b
    | some r =>
      let served := decide (reason = .none)
      let r' :=
        completeResult r (if served then some b.gate.ref else none) e.exposed a.charged a.first b.stand.clock reason
      takeResult a.slot (codeAfter served a.limit r'[1]) r' b

/-- An entry at the ending of a withdraw, a jam or a soft reset (R38-R41, R90). -/
def Entry.cancel (reason : Reason) (e : Entry) : Entry :=
  match e.st with
  | .candidate | .planned | .active => { e with st := .cancelled, reason := reason, hold := 0 }
  | _ => e

/-- The gate list as a whole. -/
def setList (l : List Entry) (b : Block) : Block := b.setGate { b.gate with list := l }

/-- A change of one entry. -/
def withEntry (i : Nat) (f : Entry → Entry) (b : Block) : Block := setList (b.gate.list.modify i f) b

/-- The ACTIVE entry and its active order copy. -/
def Gate.activeEntry (g : Gate) : Option (ActiveOrder × Entry) :=
  match g.active with
  | none => none
  | some a => g.list[a.index]?.map (fun e => (a, e))

/-- The cycle ends with its entries cancelled (R38-R41). -/
def endCancelled (reason : Reason) (oc : OutcomeCode) (b : Block) : Block :=
  let b1 :=
    match b.gate.activeEntry with
    | none => b
    | some (a, e) => closeOrder a e reason b
  endCycle oc (setList (b1.gate.list.map (Entry.cancel reason)) b1)

/-- The ending that the pending mark calls for (R38, R39, R41). -/
def endPending (b : Block) : Block :=
  if b.gate.withdrawPending then endCancelled .aborted .aborted b else endCancelled .reset .reset b

/-! ## Steps (R33, R54, R59) -/

/-- A change of the active order copy. -/
def withActive (f : ActiveOrder → ActiveOrder) (b : Block) : Block :=
  b.setGate { b.gate with active := b.gate.active.map f }

/-- The raw exposure value of a step (R54). -/
def rawIndex (b : Block) (a : ActiveOrder) (step : Nat) : Int :=
  let s : Settings := b.stand.latched
  s.calibration + b.expo.density + a.offsets.getD (step - 1) 0

/-- A step of the ACTIVE entry begins: its exposure index, and the read of its exposure table entry (R54, R55). -/
def beginStep (b : Block) : Block :=
  match b.gate.activeEntry with
  | none => b
  | some (a, e) =>
    let raw := rawIndex b a e.step
    let b1 := b.setExpo { b.expo with index := clampIndex raw, clipped := decide (raw < 0 ∨ 63 < raw) }
    issue .tableRead (.words [.read (addrOf b.path.straps (.exposure (Fin.ofNat 64 (clampIndex raw))))])
      (withActive (fun a => { a with phase := .tableRead }) b1)

/-- The exposure waits only for READY and room. -/
def stepWaits (b : Block) : Bool := b.gate.active.any (fun a => decide (a.phase = .waiting))

/-- The exposure begins when the film is READY and a posting place can be reserved (R34, R59, R93). -/
def tryExpose (b : Block) : Block :=
  if stepWaits b ∧ b.film.st = .ready ∧ b.hasRoom then
    let b1 := b.setCharges { b.charges with reserved := b.charges.reserved + 1 }
    let b2 := b1.setExpo { b1.expo with stamp := b1.stand.clock, lamp := .expose }
    withActive (fun a => { a with phase := .exposing }) (b2.setFilm { b2.film with st := .exposing })
  else b

/-! ## Move-out (R32) -/

/-- The result copy is loaded; the first step begins, or the pending ending comes about (R32, R39). -/
def resultLoaded (r : Vector Word 9) (b : Block) : Block :=
  let b1 := b.setGate { b.gate with result := some r }
  if b.gate.ending then endPending b1 else beginStep b1

/-- The words read fill the places that the held write-back left open (R9). -/
def fillWords : List (Option Word) → List Word → List Word
  | [], _ => []
  | some w :: l, got => w :: fillWords l got
  | none :: l, got => got.headD 0 :: fillWords l got.tail

/-- The result copy from the held words and the words read. -/
def loadedWords (known : ResultWords) (got : List Word) : Vector Word 9 :=
  let l := fillWords known.toList got
  Vector.ofFn (fun i => l.getD i.val 0)

/-- The reads of a result-copy load: the words that the held write-back does not cover (R9). -/
def loadReads (b : Block) (n : Fin 24) (known : ResultWords) : List WordAcc :=
  (List.finRange 9).filterMap (fun i => if known[i].isSome then none else some (.read (resultAddr b n i)))

/-- The result copy of a slot is loaded (R9): behind an outstanding base read of the slot (R10), at once when the held
write-back covers every word (log 17). -/
def loadResult (n : Fin 24) (b : Block) : Block :=
  if baseOutstanding b n then defer (.load n) b
  else
    let known := heldWords b n
    match loadReads b n known with
    | [] => resultLoaded (loadedWords known []) b
    | l => issue (.resultLoad known) (.words l) b

/-- The first PLANNED entry in list order (R32). -/
def firstPlanned (l : List Entry) : Option Nat := l.findIdx? (fun e => decide (e.st = .planned))

/-- The active order copy of an entry (R32). -/
def activeOf (i : Nat) (e : Entry) (limit : BitVec 8) : ActiveOrder :=
  { index := i, slot := e.slot, account := e.account, rate := e.rate, copies := e.copies, template := e.template,
    steps := e.steps, offsets := e.offsets, limit := limit, phase := .loading, first := none, charged := 0 }

/-- An entry is moved out (R32). -/
def moveOutEntry (i : Nat) (e : Entry) (b : Block) : Block :=
  let b1 := withEntry i (fun e => { e with st := .active }) (withShadow e.slot (fun s => { s with code := .serving }) b)
  loadResult e.slot
    (b1.setGate { b1.gate with st := .serving, active := some (activeOf i e (b.shadow e.slot).limit), result := none })

/-- The outcome of a cycle whose last entry has ended (R31, R35). -/
def servedOutcome (l : List Entry) : OutcomeCode :=
  if l.any (fun e => decide (e.st = .served)) then .served else .noneServed

/-- Move-out of the next PLANNED entry, or the end of the cycle (R31, R32, R35). -/
def moveOut (b : Block) : Block :=
  match firstPlanned b.gate.list with
  | none => endCycle (servedOutcome b.gate.list) b
  | some i =>
    match b.gate.list[i]? with
    | none => b
    | some e => moveOutEntry i e b

/-! ## The end of a step and of an entry -/

/-- The position after a step, copy-major; none after the last (R33). -/
def nextStep (a : ActiveOrder) (e : Entry) : Option (Nat × Nat) :=
  if e.step < a.steps then some (e.copy, e.step + 1)
  else if e.copy < a.copies then some (e.copy + 1, 1)
  else none

/-- The ACTIVE entry ends SERVED (R35). -/
def endServed (a : ActiveOrder) (e : Entry) (b : Block) : Block :=
  let b1 := closeOrder a e .none b
  let b2 := withEntry a.index (fun e => { e with st := .served, hold := 0 }) b1
  let b3 := withOutcome (fun o => { o with served := count255 o.served }) b2
  moveOut (b3.setGate { b3.gate with active := none, result := none })

/-- The step in hand has ended (R33, R35, R39; log 15); its values stand until the next step sets them (log 37). -/
def stepEnded (b : Block) : Block :=
  match b.gate.activeEntry with
  | none => b
  | some (a, e) =>
    if b.gate.ending then endPending b
    else
      match nextStep a e with
      | some (c, s) => beginStep (withEntry a.index (fun e => { e with copy := c, step := s }) b)
      | none => endServed a e b

/-- The price of the step in hand (R86). -/
def priceOf (b : Block) (a : ActiveOrder) (e : Entry) : Nat :=
  let s : Settings := b.stand.latched
  s.stepPrice a.rate e.step

/-- An uncalibrated step (R56). -/
def skipStep (a : ActiveOrder) (e : Entry) (b : Block) : Block :=
  let price := priceOf b a e
  let b1 := withEntry a.index (fun e => { e with hold := e.hold - price, skipped := e.skipped + 1 }) b
  stepEnded (withOutcome (fun o => { o with uncalibrated := count255 o.uncalibrated }) b1)

/-- A step's exposure table read completes (R56-R58). -/
def tableReadDone (v : Word) (b : Block) : Block :=
  match b.gate.activeEntry with
  | none => b
  | some (a, e) =>
    if b.gate.ending then endPending b
    else if v = 0 then skipStep a e b
    else tryExpose (withActive (fun a => { a with phase := .waiting }) (b.setExpo { b.expo with lampTime := v }))

/-! ## Planning (R28-R31) -/

/-- A candidate is passed over at its visit with a reason (R28-R30). -/
def skipEntry (i : Nat) (reason : Reason) (b : Block) : Block :=
  withEntry i (fun e => { e with st := .skipped, reason := reason }) b

/-- An entry is DROPPED, its hold released (R28, R30, R36). -/
def dropEntry (i : Nat) (b : Block) : Block :=
  withOutcome (fun o => { o with dropped := count255 o.dropped })
    (withEntry i (fun e => { e with st := .dropped, hold := 0 }) b)

/-- A bracket scheme's count, and its first count offsets (R52, R53). -/
def schemeCount (m : Vector Word 8) : Nat := m[0].toNat
def schemeOffsets (m : Vector Word 8) : List Int := (m.toList.tail.take (schemeCount m)).map (·.toInt)

/-- The scheme a shadow names. -/
def schemeOf (b : Block) (s : Shadow) : Vector Word 8 := b.expo.schemes[s.scheme.toNat]

/-- The setup of a slot is valid (R28, R53). -/
def setupValid (s : Shadow) (m : Vector Word 8) : Bool :=
  decide (1 ≤ s.copies.toNat ∧ s.copies.toNat ≤ 9) && decide (1 ≤ schemeCount m ∧ schemeCount m ≤ 7)
    && (schemeOffsets m).all (fun o => decide (-9 ≤ o ∧ o ≤ 9))
    && decide (s.account.toNat ≤ 127) && (orderTemplate s.template).isSome

/-- What a visit copies into the entry (R29). -/
def Entry.plan (s : Shadow) (m : Vector Word 8) (e : Entry) : Entry :=
  { e with copies := s.copies.toNat, steps := schemeCount m, offsets := schemeOffsets m,
           account := Fin.ofNat 128 s.account.toNat, template := (orderTemplate s.template).getD none,
           planned := s.copies.toNat * schemeCount m }

/-- The frames planned of the PLANNED entries (R29). -/
def plannedFrames (l : List Entry) : Nat := ((l.filter (fun e => decide (e.st = .planned))).map (·.planned)).sum

/-- The film is short for an entry of so many frames (R29). -/
def filmShort (b : Block) (frames : Nat) : Bool :=
  !decide (b.film.st = .ready) || decide (b.film.length < b.film.used + plannedFrames b.gate.list + frames)

/-- The film is short for the entry: it is skipped for ROLL-SHORT (R29). -/
def rollShort (i : Nat) (n : Fin 24) (b : Block) : Block :=
  skipOrder n .rollShort
    (withOutcome (fun o => { o with rollShort := count255 o.rollShort }) (skipEntry i .rollShort b))

/-- The visit waits for the account read of its entry (R30). -/
def awaitAccount (i : Nat) (a : Fin 128) (b : Block) : Block :=
  let b' := b.setGate { b.gate with visiting := some i }
  b'.setNv { b'.nv with planClaim := some a }

/-- A visit to the CANDIDATE at position `i` (R28-R30): what it does, and whether it waits for its account read. -/
def visit (i : Nat) (e : Entry) (b : Block) : Block × Bool :=
  let s := b.shadow e.slot
  let m := schemeOf b s
  if e.deactivated then (dropEntry i b, false)
  else if !setupValid s m then (haltOrder e.slot (skipEntry i .badSetup b), false)
  else
    let e' := e.plan s m
    let b1 := withEntry i (fun _ => e') b
    if filmShort b e'.planned then (rollShort i e.slot b1, false) else (awaitAccount i e'.account b1, true)

/-- The entries at the positions given are visited in turn; after the last, planning is over (R31). -/
def visitAll : List Nat → Block → Block
  | [], b => moveOut b
  | i :: l, b =>
    match b.gate.list[i]? with
    | none => visitAll l b
    | some e => if (visit i e b).2 then (visit i e b).1 else visitAll l (visit i e b).1

/-- Planning goes on with the entry at position `i`. -/
def visitFrom (i : Nat) (b : Block) : Block := visitAll (List.range' i (b.gate.list.length - i)) b

/-! ## The judgement of an account (R87, R88) -/

/-- The deltas queued for an account. -/
def queuedDeltas (b : Block) (a : Fin 128) : Int :=
  ((b.charges.queue.filter (fun p => decide (p.account = a))).map (·.delta)).sum

/-- The holds of the PLANNED entries of an account. -/
def plannedHolds (b : Block) (a : Fin 128) : Nat :=
  ((b.gate.list.filter (fun e => decide (e.st = .planned) && decide (e.account = a))).map (·.hold)).sum

/-- The available amount for a candidate with its own hold amount (R88). -/
def available (b : Block) (a : Fin 128) (r : List Word) (own : Nat) : Int :=
  recordBalance r + queuedDeltas b a - plannedHolds b a - own

/-- The hold amount of an entry at a record's rate class (R86). -/
def entryHold (b : Block) (e : Entry) (r : List Word) : Nat :=
  let s : Settings := b.stand.latched
  s.holdAmount (recordRate r) e.copies e.steps

/-- The reason for which a record refuses an entry; none when the hold is placed (R87). An entry whose hold is 0 is judged by the
same table, also below the floor, though R86 has a hold of 0 always placed when funds are judged (log 41). -/
def judgeAccount (b : Block) (e : Entry) (r : List Word) : Option Reason :=
  if !recordSound r then some .accountFault
  else if recordStopped r then some .accountStopped
  else if available b e.account r (entryHold b e r) < recordFloor r then some .fundsShort
  else none

/-- The count of the outcome record that a refusal increases (R30, R42). -/
def countSkip (reason : Reason) (o : OutcomeRecord) : OutcomeRecord :=
  match reason with
  | .accountFault => { o with accountFault := count255 o.accountFault }
  | .accountStopped => { o with accountStopped := count255 o.accountStopped }
  | .fundsShort => { o with fundsShort := count255 o.fundsShort }
  | _ => o

/-- What the account read of an entry makes of it (R30). -/
def judgeEntry (i : Nat) (e : Entry) (r : List Word) (b : Block) : Block :=
  match judgeAccount b e r with
  | some reason => skipOrder e.slot reason (withOutcome (countSkip reason) (skipEntry i reason b))
  | none => withEntry i (fun x => { x with st := .planned, rate := recordRate r, hold := entryHold b e r }) b

/-- A planning read completes (R30, R38, R41; log 34): a deactivated entry is DROPPED, a pending mark ends the cycle; the port is
free, so a posting may land before the next planning read (R88, log 40). -/
def planningReadDone (got : List Word) (b : Block) : Block :=
  let b0 := endClaim b
  match b.gate.visiting with
  | none => b0
  | some i =>
    let b1 := portFreed (b0.setGate { b0.gate with visiting := none })
    match b1.gate.list[i]? with
    | none => b1
    | some e =>
      let b2 := if e.deactivated then dropEntry i b1 else if b1.gate.ending then b1 else judgeEntry i e got b1
      if b1.gate.ending then endPending b2 else visitFrom (i + 1) b2

/-! ## The scan (R26, R27) -/

/-- A slot matches the slide (R26). -/
def slotMatches (b : Block) (n : Fin 24) : Bool :=
  let s := b.shadow n
  decide (s.code = .opened) && decide ((b.gate.ref ^^^ s.ref) &&& s.mask = 0) && decide (s.lastServed ≠ b.gate.ref)
    && !b.gate.deactivated[n]

/-- Whether slot `m` comes before slot `n` in the latched arbitration mode (R27). -/
def comesBefore (b : Block) (m n : Fin 24) : Bool :=
  let s : Settings := b.stand.latched
  if s.byPriority then
    decide ((b.shadow m).priority < (b.shadow n).priority)
      || (decide ((b.shadow m).priority = (b.shadow n).priority) && decide (m < n))
  else decide (m < n)

/-- A slot takes its place among ordered ones. -/
def insertSlot (b : Block) (n : Fin 24) : List (Fin 24) → List (Fin 24)
  | [] => [n]
  | m :: l => if comesBefore b m n then m :: insertSlot b n l else n :: m :: l

/-- The matching slots in order (R27). -/
def orderedMatches (b : Block) : List (Fin 24) :=
  ((List.finRange 24).filter (slotMatches b)).foldr (insertSlot b) []

/-- A fresh entry: CANDIDATE, every count and its hold at zero (R27). -/
def Entry.candidate (n : Fin 24) : Entry :=
  { slot := n, st := .candidate, reason := .none, deactivated := false, copies := 0, steps := 0, offsets := [], account := 0,
    template := none, rate := 0, planned := 0, exposed := 0, skipped := 0, copy := 1, step := 1, hold := 0 }

/-- A match beyond the eighth is passed over (R27). -/
def passOver (b : Block) (n : Fin 24) : Block :=
  skipOrder n .listFull (withOutcome (fun o => { o with listFull := count255 o.listFull }) b)

/-- The matching scan (R26, R27). -/
def scan (b : Block) : Block :=
  let l := orderedMatches b
  if l.isEmpty then endCycle .noMatch b
  else
    let b1 := setList ((l.take Config.gateEntries).map Entry.candidate) b
    let b2 := (l.drop Config.gateEntries).foldl passOver b1
    visitFrom 0 (b2.setGate { b2.gate with st := .planning })

/-! ## Metering -/

/-- The conversion has ended: the lamp is OFF, nothing is converting (R48, R50). -/
def endConversion (b : Block) : Block := b.setExpo { b.expo with lamp := .off, converting := false }

/-- A reading that is not set aside is latched and judged (R25, R48). -/
def judgeReading (r : BitVec 10) (b : Block) : Block :=
  let s : Settings := b.stand.latched
  let b1 := withOutcome (fun o => { o with reading := r }) (b.setExpo { b.expo with reading := r })
  if r.toNat < s.dark then endCycle .dark b1
  else if s.bright < r.toNat then endCycle .bright b1
  else
    let d := densityIndex r
    scan (withOutcome (fun o => { o with density := d }) (b1.setExpo { b1.expo with density := d }))

/-- The meter conversion completes (R25, R48, R50). -/
def conversionDone (r : BitVec 10) (b : Block) : Block :=
  if b.expo.converting then
    let b1 := endConversion b
    if b.gate.ending then endPending b1 else judgeReading r b1
  else b

/-! ## ARRIVE, WITHDRAW, deactivation -/

/-- What an accepted ARRIVE does first (R22, R47). -/
def startCycle (b : Block) : Block :=
  let g := b.gate
  let b1 :=
    b.setGate { g with ref := g.staged, outcome := { OutcomeRecord.start with ref := g.staged }, list := [],
                       deactivated := Vector.replicate 24 false, withdrawPending := false, visiting := none,
                       active := none, result := none }
  b1.setExpo { b1.expo with reading := 0, density := 0 }

/-- The meter conversion is asked for (R47). -/
def beginConversion (b : Block) : Block :=
  let b1 := b.setGate { b.gate with st := .metering }
  b1.setExpo { b1.expo with lamp := .meter, converting := true }

/-- ARRIVE is accepted (R22). -/
def arriveAccepted (b : Block) : Bool := b.gateQuiet && decide (b.stand.st = .running)

/-- ARRIVE (R22, R23). -/
def arriveOp (b : Block) : Block :=
  if arriveAccepted b then
    let b1 := startCycle b
    if b.film.st = .ready ∨ b.film.st = .ended then beginConversion b1 else endCycle .notReady b1
  else refuseAt (.stand 8) b

/-- Work of the ACTIVE entry is in flight (R39). -/
def inFlight (b : Block) : Bool := b.gate.active.any (fun a => !decide (a.phase = .waiting))

/-- A pending mark has just been set: the cycle ends at once when nothing of it is under way (R38, R39, R41). -/
def endIfIdle (b : Block) : Block :=
  match b.gate.st with
  | .planning => if b.gate.visiting.isNone then endPending b else b
  | .serving => if inFlight b then b else endPending b
  | _ => b

/-- WITHDRAW (R24, R38, R39). -/
def withdrawOp (b : Block) : Block :=
  if b.gate.st = .done then b.setGate { b.gate with st := .empty }
  else if b.gate.inCycle ∧ b.gate.ending = false then endIfIdle (b.setGate { b.gate with withdrawPending := true })
  else b

/-- The Gate Engine at a soft reset (R41, R169): a withdraw's ending stands; with no cycle in progress the soft reset
completes in the same event. -/
def gateReset (b : Block) : Block :=
  if b.gate.inCycle then
    if b.gate.withdrawPending then b else endIfIdle (b.setGate { b.gate with resetPending := true })
  else completeSoftReset b

/-- The entry of a slot (R36). -/
def entryOf (b : Block) (n : Fin 24) : Option Nat := b.gate.list.findIdx? (fun e => decide (e.slot = n))

/-- A deactivation reaches the slot's entry (R36). -/
def deactivateEntry (i : Nat) (e : Entry) (b : Block) : Block :=
  let mark := withEntry i (fun e => { e with deactivated := true })
  match e.st with
  | .candidate | .active => mark b
  | .planned => dropEntry i (mark b)
  | _ => b

/-- A deactivation of a slot (R17, R36). -/
def deactivate (n : Fin 24) (b : Block) : Block :=
  let b1 := b.setGate { b.gate with deactivated := b.gate.deactivated.set n true }
  match entryOf b1 n with
  | none => b1
  | some i =>
    match b1.gate.list[i]? with
    | none => b1
    | some e => deactivateEntry i e b1

/-- A controller write to a slot's word 0 (R5, R16, R17). -/
def orderControlWrite (n : Fin 24) (v : Word) (b : Block) : Block := deactivate n (orderControlTake n v b)

/-- A controller write to an order word: word 0 is live, the rest is stored (R5, R6, R7, R8). -/
def orderWrite (n : Fin 24) (k : Fin 16) (v : Word) (b : Block) : Block :=
  if k.val = 0 then orderControlWrite n v b else memoryAccess (.write (addrOf b.path.straps (.order n k)) v) b

/-! ## Base reads and loads completing -/

/-- What waited behind a base read of its slot is taken up (R10). -/
def takeUp (b : Block) (d : Deferred) : Block :=
  match d with
  | .base n reason stamp => formPass n reason stamp b
  | .load n => loadResult n b

/-- Whether a deferral is behind the base read of a slot. -/
def Deferred.isOf (n : Fin 24) : Deferred → Bool
  | .base m _ _ => decide (m = n)
  | .load m => decide (m = n)

/-- A base read completes: its write-back is formed, then what waited behind it is taken up (R10). -/
def baseReadDone (r : BaseRead) (got : List Word) (b : Block) : Block :=
  let b1 := formFromBase r (got.headD 0) b
  let mine := b1.orders.deferred.filter (Deferred.isOf r.slot)
  mine.foldl takeUp (b1.setOrders { b1.orders with deferred := b1.orders.deferred.filter (fun d => !d.isOf r.slot) })

/-- The reads of a result-copy load complete (R9). -/
def resultReadsDone (known : ResultWords) (got : List Word) (b : Block) : Block := resultLoaded (loadedWords known got) b

/-! ## Commands -/

/-- ORDER_CONTROL_WRITE (R5). -/
def execOrderControlWrite (n : Fin 24) (v : Word) (s : State) : Host.Outcome State Fault Refusal :=
  event (fun b => settle (writeAt (.order n 0) v (orderControlWrite n v) b)) s

/-- ORDER_SETUP_WRITE (R6); the shadow takes the value as the arbiter serves the write. -/
def execOrderSetupWrite (n : Fin 24) (k : Fin 16) (v : Word) (s : State) : Host.Outcome State Fault Refusal :=
  event (fun b => settle (writeAt (.order n k) v (orderWrite n k v) b)) s

/-- ORDER_RESULT_WORD_WRITE (R7, R8); the shadow follows as the arbiter serves the write. -/
def execOrderResultWordWrite (n : Fin 24) (k : Fin 16) (v : Word) (s : State) : Host.Outcome State Fault Refusal :=
  event (fun b => settle (writeAt (.order n k) v (orderWrite n k v) b)) s

/-- ARRIVAL_REFERENCE_WRITE (R21). -/
def execArrivalReferenceWrite (v : Word) (s : State) : Host.Outcome State Fault Refusal :=
  event (writeAt (.stand 7) v (fun b => b.setGate { b.gate with staged := v })) s

/-- ARRIVE (R22, R23). -/
def execArrive (s : State) : Host.Outcome State Fault Refusal :=
  event (fun b => settle (writeAt (.stand 8) 1 arriveOp b)) s

/-- WITHDRAW (R24). -/
def execWithdraw (s : State) : Host.Outcome State Fault Refusal :=
  event (fun b => settle (writeAt (.stand 8) 2 withdrawOp b)) s

/-- CONVERSION_COMPLETION (R48). -/
def execConversionCompletion (r : BitVec 10) (s : State) : Host.Outcome State Fault Refusal :=
  event (fun b => settle (conversionDone r b)) s

end Sys2Proof.Machine
end

