-- ==== Sys2Proof/Machine/Service.lean ====
section
/-! DEFINITION. Service of a step: the exposure's completion, its frame record and charge (R34, R78, R79, R93), and the
advance that follows it (R68-R71). -/

namespace Sys2Proof.Machine

/-! ## The completed exposure -/

/-- The frame an exposure completion creates (R78). -/
def newFrame (a : ActiveOrder) (price : Nat) : Frame :=
  { label := if a.template.isSome then .due else .none, attempts := 0, template := a.template, account := a.account,
    amount := price }

/-- The six words of a new frame record (R78, R185). -/
def frameWords (b : Block) (a : ActiveOrder) (e : Entry) (price : Nat) : List Word :=
  [word (a.slot.val + e.step * 256 + e.copy * 4096), b.gate.ref,
    word (a.account.val + b.expo.index * 256 + flagBit b.expo.clipped * 32768), labelWord (newFrame a price), word price,
    b.expo.stamp]

/-- The writes of a new frame record, then of the header's frames used word (R79). -/
def frameWrites (b : Block) (a : ActiveOrder) (e : Entry) (price : Nat) (p : Fin 4) (f : Fin 72) : List (Target × Word) :=
  (frameWords b a e price).zipIdx.map (fun x => (Target.frame p f (Fin.ofNat 6 x.2), x.1))
    ++ [(.header p 3, word (f.val + 1))]

/-- The Page Unit records the frame at position `f + 1` (R78, R79, R131). -/
def recordFrame (a : ActiveOrder) (e : Entry) (price : Nat) (p : Fin 4) (f : Fin 72) (b : Block) : Block :=
  let fr := newFrame a price
  let b1 := issuePage (frameWrites b a e price p f) b
  let b2 := withPage p (fun pg => { pg with used := f.val + 1, frames := pg.frames.set f fr }) b1
  withUseCount a.template (fun n => n + 1) b2

/-- The CHARGE posting of a frame, in place of its reservation (R91, R93). -/
def chargeFrame (a : ActiveOrder) (price : Nat) (p : Fin 4) (f : Fin 72) (b : Block) : Block :=
  let b1 := queuePosting { account := a.account, delta := -(price : Int), kind := .charge, page := p, frame := f } b
  b1.setCharges { b1.charges with reserved := b1.charges.reserved - 1 }

/-- The Gate Engine counts the frame (R34, R89, R9). -/
def countFrame (a : ActiveOrder) (price : Nat) (p : Fin 4) (f : Fin 72) (b : Block) : Block :=
  let b1 := withEntry a.index (fun e => { e with exposed := e.exposed + 1, hold := e.hold - price }) b
  let b2 := withOutcome (fun o => { o with exposed := count255 o.exposed }) b1
  withActive (fun a => { a with first := a.first.or (some (p, f)), charged := a.charged + price }) b2

/-- The Film Transport ends the frame (R70): END and the end of the step after the last, else a frame advance. -/
def endFrame (f : Fin 72) (b : Block) : Block :=
  let b1 := b.setFilm { b.film with used := f.val + 1 }
  if f.val + 1 = b.film.length then stepEnded (raise .film (b1.setFilm { b1.film with st := .ended }))
  else withActive (fun a => { a with phase := .advancing }) (beginAdvance .advancing b1)

/-- The ACTIVE entry whose exposure is in progress, with the page and position its frame goes to; none when no exposure is
in progress (R59, R78). -/
def exposureInHand (b : Block) : Option (ActiveOrder × Entry × Fin 4 × Fin 72) :=
  match b.gate.activeEntry, b.film.page with
  | some (a, e), some p => if a.phase = .exposing ∧ b.film.used < 72 then some (a, e, p, Fin.ofNat 72 b.film.used) else none
  | _, _ => none

/-- An exposure completes (R34, R60, R70, R79, R93). -/
def exposureDone (b : Block) : Block :=
  match exposureInHand b with
  | none => b
  | some (a, e, p, f) =>
    let price := priceOf b a e
    let b1 := recordFrame a e price p f (b.setExpo { b.expo with lamp := .off })
    endFrame f (countFrame a price p f (chargeFrame a price p f b1))

/-! ## Advances -/

/-- An advance of the ACTIVE entry is in progress (R39, R71). -/
def serviceAdvance (b : Block) : Bool := b.gate.active.any (fun a => decide (a.phase = .advancing))

/-- A leader advance completes (R67). -/
def leaderDone (b : Block) : Block :=
  let b1 := b.setFilm { b.film with leaderLeft := b.film.leaderLeft - 1 }
  if b1.film.leaderLeft = 0 then filmSettles .ready .none b1 else beginAdvance .leader b1

/-- A frame advance completes: one begun by RETRY settles the film (R72), one of service ends its step (R70). -/
def advanceDone (b : Block) : Block :=
  if b.film.interrupted ≠ .none then filmSettles .ready .none b
  else
    let b1 := b.setFilm { b.film with st := .ready }
    if serviceAdvance b then stepEnded b1 else b1

/-- A perforation pulse (R68). -/
def pulse (b : Block) : Block :=
  if b.film.advances then
    let b1 := b.setFilm { b.film with pulses := b.film.pulses + 1 }
    if b1.film.pulses = b.film.pulsesPerFrame then (if b.film.st = .leader then leaderDone b1 else advanceDone b1) else b1
  else b

/-- The gate cycle at an advance timeout (R71). -/
def jamCycle (b : Block) : Block :=
  if serviceAdvance b then (if b.gate.ending then endPending b else endCancelled .jam .jammed b) else b

/-- The advance limit runs out (R71). -/
def advanceTimeoutOp (b : Block) : Block :=
  if b.film.advances ∧ b.film.limitOut then
    jamCycle (filmSettles .jammed (if b.film.st = .leader then .leaderAdvance else .frameAdvance) b)
  else b

/-! ## Commands -/

/-- EXPOSURE_COMPLETION (R34, R60). -/
def execExposureCompletion (s : State) : Host.Outcome State Fault Refusal := event (fun b => settle (exposureDone b)) s

/-- PERFORATION_PULSE (R68). -/
def execPerforationPulse (s : State) : Host.Outcome State Fault Refusal := event (fun b => settle (pulse b)) s

end Sys2Proof.Machine
end

