-- ==== Sys2Proof/Machine/ChargeUnit.lean ====
section
/-! DEFINITION. Charge Unit (chapter 5): the application of postings, the unposted total, the last faulted account, and what
the room they free is used for (R94). -/

namespace Sys2Proof.Machine

/-! ## Room found (R93, R94) -/

/-- A step waits for room, its film READY. -/
def exposureContends (b : Block) : Bool := stepWaits b && decide (b.film.st = .ready)

/-- Room has been found: a waiting exposure and a waiting walk may take it, either first (R94): when both wait, the choice is
free (log 11). -/
def roomFound (b : Block) : Block :=
  if exposureContends b ∧ b.pages.walkQueue ≠ [] then
    if Config.exposureFirst b.freeCount then walk (tryExpose (drawFree b)) else tryExpose (walk (drawFree b))
  else walk (tryExpose b)

/-- The command that comes next is a SPOIL: the controller may have written it in the event in hand (R94, log 35). -/
def spoilNext : List Instr → Bool
  | .spoil _ _ :: _ => true
  | _ => false

/-- A place of the posting queue has been freed: what waits for it may take it, unless a SPOIL of the same event is taken first and
leaves what waits to the end of its own command (R94, R125, R126): the choice is free (log 35). -/
def placeFreed (spoils : Bool) (b : Block) : Block :=
  if spoils then (if Config.spoilFirst b.freeCount then drawFree b else roomFound (drawFree b)) else roomFound b

/-- The head posting leaves the queue and its application ends (R92, R96, R97). -/
def dropHead (b : Block) : Block :=
  b.setCharges { b.charges with queue := b.charges.queue.tail, applying := false }

/-! ## The application of the head posting (R95-R97) -/

/-- A posting whose record is faulted (R96). -/
def faultPosting (p : Posting) (b : Block) : Block :=
  let b1 := dropHead b
  raise .account
    (b1.setCharges { b1.charges with unposted := satAmount (b1.charges.unposted.toInt + p.delta),
                                     lastFaulted := some p.account })

/-- The read of the head posting's record completes (R96, R97). -/
def postingReadDone (spoils : Bool) (got : List Word) (b : Block) : Block :=
  match b.charges.queue with
  | [] => endClaim b
  | p :: _ =>
    if recordSound got then beginCycle .postingWrite (recordCycle p.account (postedRecord got p b.stand.day)) b
    else placeFreed spoils (faultPosting p (endClaim b))

/-- The posting's write cycle has ended (R97). -/
def postingDone (spoils : Bool) (b : Block) : Block := placeFreed spoils (dropHead (endClaim b))

/-! ## SPOIL (R128) -/

/-- SPOIL as a command of its own: what still waits may take the room that the event it belongs to has freed (R94, log 35). -/
def spoilCommand (p : Fin 4) (f : Fin 72) (b : Block) : Block := roomFound (spoilOp p f b)

/-! ## The unposted total and the last faulted account (R99, R100) -/

/-- A read of the low word (R99). -/
def unpostedLowRead (b : Block) : Block :=
  answer (lowHalf b.charges.unposted) (b.setCharges { b.charges with readStage := highHalf b.charges.unposted })

/-- A write of the low word (R99). -/
def unpostedLowWrite (v : Word) (b : Block) : Block := b.setCharges { b.charges with writeStage := v }

/-- A write of the high word (R99). -/
def unpostedHighWrite (v : Word) (b : Block) : Block :=
  b.setCharges { b.charges with unposted := amount v b.charges.writeStage }

/-- A write of the last faulted account (R100). -/
def lastFaultedWrite (b : Block) : Block := b.setCharges { b.charges with lastFaulted := none }

/-! ## Commands -/

/-- SPOIL (R128). -/
def execSpoil (p : Fin 4) (f : Fin 72) (s : State) : Host.Outcome State Fault Refusal :=
  event (fun b => settle (writeAt (.frame p f 3) 1 (spoilCommand p f) b)) s

/-- POSTING_WRITE_COMPLETE (R97). -/
def execPostingWriteComplete (s : State) : Host.Outcome State Fault Refusal :=
  event (onReady (some .posting) (postingDone (spoilNext s.pending))) s

/-- UNPOSTED_TOTAL_LOW_READ (R99). -/
def execUnpostedTotalLowRead (s : State) : Host.Outcome State Fault Refusal := event (readAt (.stand 30) unpostedLowRead) s

/-- UNPOSTED_TOTAL_LOW_WRITE (R99). -/
def execUnpostedTotalLowWrite (v : Word) (s : State) : Host.Outcome State Fault Refusal :=
  event (writeAt (.stand 30) v (unpostedLowWrite v)) s

/-- UNPOSTED_TOTAL_HIGH_WRITE (R99). -/
def execUnpostedTotalHighWrite (v : Word) (s : State) : Host.Outcome State Fault Refusal :=
  event (writeAt (.stand 31) v (unpostedHighWrite v)) s

/-- LAST_FAULTED_ACCOUNT_WRITE (R100). -/
def execLastFaultedAccountWrite (v : Word) (s : State) : Host.Outcome State Fault Refusal :=
  event (writeAt (.stand 32) v lastFaultedWrite) s

end Sys2Proof.Machine
end

