-- ==== Sys2Proof/Machine/PrinterLink.lean ====
section
/-! DEFINITION. Printer Link (chapter 8) and the composer (R132-R134). -/

namespace Sys2Proof.Machine

/-! ## The composer (R132, R133) -/

/-- The decimal digit of `n` at a place: 1, 10, 100 and so on. -/
def digit (n place : Nat) : Byte := BitVec.ofNat 8 (48 + n / place % 10)

/-- `n` in decimal digits with leading zeros, the places given. -/
def digits (places : List Nat) (n : Nat) : List Byte := places.map (digit n)

/-- What a label line takes its fields from: slide reference, roll number, frame position, step, series count, day loaded,
account, copy. -/
structure LabelFields where
  ref : Word
  roll : Nat
  position : Nat
  step : Nat
  series : Nat
  day : Nat
  account : Nat
  copy : Nat
  deriving DecidableEq, Repr

/-- The text a template byte gives (R132). -/
def byteText (x : LabelFields) (c : Byte) : List Byte :=
  if 0x20 ≤ c.toNat ∧ c.toNat ≤ 0x7E then [c]
  else
    match c.toNat with
    | 1 => digits [100, 10, 1] (bits x.ref 8 8) ++ [0x2D] ++ digits [100, 10, 1] (bits x.ref 0 8)
    | 2 => digits [10000, 1000, 100, 10, 1] x.roll ++ [0x2F] ++ digits [10, 1] x.position
    | 3 => if x.series = 1 then [0x20, 0x20, 0x20] else [digit x.step 1, 0x2F, digit x.series 1]
    | 4 => digits [10000, 1000, 100, 10, 1] x.day
    | 5 => digits [100, 10, 1] x.account
    | 6 => [digit x.copy 1]
    | _ => [0x20]

/-- The characters of a word of a template line: low byte first (R130). -/
def wordBytes (w : Word) : List Byte := [w.extractLsb' 0 8, w.extractLsb' 8 8]

/-- A label line: the first 24 characters of its text (R132). -/
def labelLine (x : LabelFields) (ws : List Word) : List Byte := (((ws.flatMap wordBytes).flatMap (byteText x))).take 24

/-- The sum byte (R140). -/
def sumByte (p : Fin 4) (f : Fin 72) (chars : List Byte) : Byte :=
  BitVec.ofNat 8 (p.val + (f.val + 1) + (chars.map (·.toNat)).sum)

/-- The 54 bytes of a message (R140). -/
def messageBytes (p : Fin 4) (f : Fin 72) (line1 line2 : List Byte) : List Byte :=
  [0x02, BitVec.ofNat 8 p.val, BitVec.ofNat 8 (f.val + 1)] ++ line1 ++ [0x1F] ++ line2
    ++ [sumByte p f (line1 ++ line2), 0x03]

/-- The label's fields, from the words read and the Page Unit's page: the record first, the run's records after it, then 24
line words, so the last record of the run begins 30 words before the end (R133, R134). -/
def fieldsOf (pg : Page) (f : Fin 72) (got : List Word) : LabelFields :=
  { ref := got.getD 1 0, roll := pg.roll.toNat, position := f.val + 1, step := bits (got.getD 0 0) 8 4,
    series := bits (got.getD (got.length - 30) 0) 8 4, day := pg.day.toNat, account := bits (got.getD 2 0) 0 8,
    copy := bits (got.getD 0 0) 12 4 }

/-- The message the composer's words give. -/
def composedBytes (pg : Page) (p : Fin 4) (f : Fin 72) (got : List Word) : List Byte :=
  let x := fieldsOf pg f got
  let lines := got.drop (got.length - 24)
  messageBytes p f (labelLine x (lines.take 12)) (labelLine x (lines.drop 12))

/-! ## Transmission -/

/-- The byte of the message in hand at `next` begins, if there is one. -/
def sendNext (b : Block) : Block :=
  match b.link.bytes[b.link.next]? with
  | none => b
  | some d =>
    b.setLink { b.link with tx := some { data := d, parity := b.link.parity, rate := b.link.rate }, next := b.link.next + 1 }

/-- The message in hand begins, at once when the line is at rest, else when the byte on it has ended (R140, R144, R149). -/
def startMessage (b : Block) : Block :=
  let b' := b.setLink { b.link with next := 0 }
  if b.link.tx.isNone then sendNext b' else b'

/-- The composition reads have completed (R134, R140): one that a soft reset set aside gives nothing (R136). -/
def compositionDone (p : Fin 4) (f : Fin 72) (got : List Word) (b : Block) : Block :=
  if b.pages.composeAside ≠ 0 then b.setPages { b.pages with composeAside := b.pages.composeAside - 1 }
  else
    let b' := b.setPages { b.pages with composing := false }
    startMessage (b'.setLink { b'.link with bytes := composedBytes b.pages.pages[p] p f got })

/-- The end of the last byte's stop bit (R141). -/
def endMessage (b : Block) : Block :=
  b.setLink { b.link with st := .awaiting, tx := none, elapsed := 0 }

/-- The byte on the line is the last of the message in hand. -/
def lastByteOut (l : Link) : Bool := decide (l.st = .sending) && l.tx.isSome && decide (l.next = 54)

/-- The stop bit of the byte on the line ends: the message ends, or its next byte begins, or the line rests (R137). -/
def stopBitEnd (b : Block) : Block :=
  if b.link.tx.isNone then b
  else if lastByteOut b.link then endMessage b
  else
    let b' := b.setLink { b.link with tx := none }
    if b.link.st = .sending then sendNext b' else b'

/-! ## Settings (R148) -/

/-- The link takes its settings from the latch; an OFF link goes to IDLE, or an IDLE or STALLED one to OFF. -/
def takeSettings (b : Block) : Block :=
  let s : Settings := b.stand.latched
  let l : Link :=
    { b.link with enable := s.printerOn, parity := s.parity, rate := s.rate, replyLimit := s.replyLimit,
                  settingsPending := false }
  b.setLink
    (if s.printerOn then (if l.st = .off then { l with st := .idle } else l)
     else { l with st := .off, stall := .none, parityError := false, framingError := false, stray := 0, message := none,
                   bytes := [], next := 0 })

/-- Pending settings are taken. -/
def takePending (b : Block) : Block := if b.link.settingsPending then takeSettings b else b

/-- The link at a latch (R148); settings equal to those held set the mark too (log 38). -/
def linkLatch (b : Block) : Block :=
  if b.link.st = .sending ∨ b.link.st = .awaiting then b.setLink { b.link with settingsPending := true }
  else selectFrame (takeSettings b)

/-- The link enters IDLE: the message is cleared, pending settings are taken, then the selection test is made (R139,
R148). -/
def enterIdle (b : Block) : Block :=
  selectFrame (takePending (b.setLink { b.link with st := .idle, message := none, bytes := [], next := 0 }))

/-- The link stalls; pending settings are taken after it (R145, R148). -/
def stall (r : StallReason) (b : Block) : Block :=
  takePending (raise .print (b.setLink { b.link with st := .stalled, stall := r }))

/-! ## Replies (R143, R144) -/

/-- The frame of the message in hand takes a label state. -/
def settleFrame (m : Option (Fin 4 × Fin 72)) (st : LabelState) (b : Block) : Block :=
  match m with
  | none => b
  | some (p, f) => changeFrame p f (fun fr => { fr with label := st }) b

/-- The error marks of a byte's errors are set. -/
def markErrors (perr ferr : Bool) (b : Block) : Block :=
  b.setLink { b.link with parityError := b.link.parityError || perr, framingError := b.link.framingError || ferr }

/-- A resend: the message as it was formed (R144). -/
def resend (p : Fin 4) (f : Fin 72) (b : Block) : Block :=
  let b' := changeFrame p f (fun fr => { fr with attempts := min 3 (fr.attempts + 1) }) b
  startMessage (b'.setLink { b'.link with st := .sending })

/-- A REJECTED reply (R143, R144). -/
def rejected (m : Option (Fin 4 × Fin 72)) (b : Block) : Block :=
  match m with
  | none => b
  | some (p, f) =>
    if (b.frame p f).attempts < 3 then resend p f b else stall .repeatedReject (settleFrame m .due b)

/-- The frame of the message in hand is printed (R143). -/
def printed (m : Option (Fin 4 × Fin 72)) (b : Block) : Block :=
  match m with
  | none => b
  | some (p, f) => printFrame p f b

/-- The reply to the message in hand (R143). -/
def reply (d : Byte) (perr ferr : Bool) (b : Block) : Block :=
  let b' := b.setLink { b.link with lastReply := d }
  let m := b.link.message
  if perr || ferr then stall .garbled (settleFrame m .unsure (markErrors perr ferr b'))
  else if d = 0x06 then enterIdle (printed m b')
  else if d = 0x15 then rejected m b'
  else if d = 0x10 then stall .paperOut (settleFrame m .due b')
  else if d = 0x11 then stall .headOpen (settleFrame m .due b')
  else stall .garbled (settleFrame m .unsure b')

/-- A stray byte (R146). -/
def strayByte (perr ferr : Bool) (b : Block) : Block :=
  let b' := markErrors perr ferr b
  b'.setLink { b'.link with stray := min 15 (b'.link.stray + 1) }

/-- Whether a byte's parity bit disagrees with its data bits (R138). -/
def parityWrong (par : Parity) (d : Byte) (bit : Bool) : Bool := (parityBitOf par d).any (fun x => x ≠ bit)

/-- Whether the arrival is that of a line held at the start-bit level (R138, log 19). -/
def lineHeld (par : Parity) (d : Byte) (bit stop : Bool) : Bool :=
  decide (d = 0) && !stop && (decide (par = .none) || !bit)

/-- The receiver hears bytes: the link is not OFF and the line has been at rest since the last held level (R138). -/
def Link.hears (l : Link) : Bool := decide (l.st ≠ .off) && l.armed

/-- An arrival (R138). -/
def arrival (d : Byte) (bit stop : Bool) (b : Block) : Block :=
  if b.link.hears then
    let perr := parityWrong b.link.parity d bit
    let b' := b.setLink { b.link with armed := !lineHeld b.link.parity d bit stop }
    if b.link.st = .awaiting then reply d perr (!stop) b' else strayByte perr (!stop) b'
  else b

/-- The reply limit has been counted out (R141). -/
def Link.limitOut (l : Link) : Bool := decide (l.st = .awaiting) && decide (l.replyLimit ≤ l.elapsed)

/-- The reply timeout, when the limit has been counted out (R141). -/
def replyTimeoutOp (b : Block) : Block :=
  if b.link.limitOut then stall .noReply (settleFrame b.link.message .unsure b) else b

/-! ## RESUME and the soft reset -/

/-- The stall reason, the error marks and the stray count are cleared (R147, R149). -/
def clearStall (b : Block) : Block :=
  b.setLink { b.link with stall := .none, parityError := false, framingError := false, stray := 0 }

/-- A DUE frame's attempt count becomes 0 (R147). -/
def clearAttempts (p : Fin 4) (b : Block) (f : Fin 72) : Block :=
  if (b.frame p f).label = .due then changeFrame p f (fun fr => { fr with attempts := 0 }) b else b

/-- The attempt counts of the head page's DUE frames become 0, in ascending frame order (R147). -/
def clearHeadAttempts (b : Block) : Block :=
  match b.pages.printQueue with
  | [] => b
  | p :: _ => (List.finRange 72).foldl (clearAttempts p) b

/-- RESUME (R147). -/
def resumeOp (b : Block) : Block :=
  if b.link.st = .stalled then enterIdle (clearHeadAttempts (clearStall b)) else b

/-- A composition in hand is set aside (R136). -/
def setAside (b : Block) : Block :=
  if b.pages.composing then
    b.setPages { b.pages with composing := false, composeAside := b.pages.composeAside + 1 }
  else b

/-- The message in hand is dropped: its frame becomes UNSURE (R149). -/
def dropMessage (b : Block) : Block :=
  if b.link.st = .sending ∨ b.link.st = .awaiting then setAside (settleFrame b.link.message .unsure b) else b

/-- The link at a soft reset (R149). -/
def linkReset (b : Block) : Block := if b.link.st = .off then b else enterIdle (clearStall (dropMessage b))

/-! ## Commands -/

/-- MESSAGE_END (R141). -/
def execMessageEnd (s : State) : Host.Outcome State Fault Refusal :=
  event (fun b => if lastByteOut b.link then endMessage b else b) s

/-- TRANSMIT_STOP_BIT_END (R137). -/
def execTransmitStopBitEnd (s : State) : Host.Outcome State Fault Refusal := event stopBitEnd s

/-- BYTE_ARRIVAL (R138, R143, R146). -/
def execByteArrival (d : Byte) (bit stop : Bool) (s : State) : Host.Outcome State Fault Refusal :=
  event (fun b => settle (arrival d bit stop b)) s

/-- RECEIVE_LINE_RETURN_TO_REST (R138). -/
def execReceiveLineReturnToRest (s : State) : Host.Outcome State Fault Refusal :=
  event (fun b => b.setLink { b.link with armed := true }) s

/-- RESUME (R147). -/
def execResume (s : State) : Host.Outcome State Fault Refusal :=
  event (fun b => settle (writeAt (.stand 24) 1 resumeOp b)) s

end Sys2Proof.Machine
end

