-- ==== Sys2Proof/Machine/StandControl.lean ====
section
/-! DEFINITION. Stand Control (chapter 10): the stand commands, settings, clock, notices, and the refused address (R158). -/

namespace Sys2Proof.Machine

/-! ## RUN, HOLD and SOFT-RESET -/

/-- RUN has found every field valid: the record is latched (R165, R167, R148). -/
def latchSettings (b : Block) : Block :=
  linkLatch (b.setStand { b.stand with status := none, latched := b.stand.copy, st := .running })

/-- RUN in HELD with no fill running (R165, R166). -/
def validate (b : Block) : Block :=
  match Settings.firstInvalid b.stand.copy with
  | none => latchSettings b
  | some i => refuseAt (.settings i) (b.setStand { b.stand with status := some i })

/-- RUN (R165). -/
def runOp (b : Block) : Block :=
  match b.stand.st with
  | .held => if b.nv.fill = .filling then refuseAt (.stand 0) b else validate b
  | .holding => if b.stand.softReset then refuseAt (.stand 0) b else b.setStand { b.stand with st := .running }
  | _ => b

/-- HOLD (R168). -/
def holdOp (b : Block) : Block :=
  if b.stand.st = .running then
    if b.gateQuiet then standHeld b else b.setStand { b.stand with st := .holding }
  else b

/-- The refused address and its staging half become 0 (R158, R163). -/
def clearRefused (b : Block) : Block := b.setPath { b.path with refusedAddr := 0, refusedStage := 0 }

/-- SOFT-RESET (R169). -/
def softResetOp (b : Block) : Block :=
  if b.stand.softReset then b
  else
    let b1 :=
      b.setStand { b.stand with softReset := true,
                                st := if b.stand.st = .running then .holding else b.stand.st }
    gateReset (linkReset (clearRefused b1))

/-! ## The clock -/

/-- One increment counts towards the reply limit (R141). -/
def Link.tick (l : Link) : Link :=
  if l.st = .awaiting then { l with elapsed := min l.replyLimit (l.elapsed + 1) } else l

/-- An increment of the stand clock, counted by every limit that runs (R69, R75, R141, R171). -/
def countTick (b : Block) : Block :=
  let b1 := b.setStand { b.stand with clock := b.stand.clock + 1 }
  (b1.setFilm b1.film.tick).setLink b1.link.tick

/-- Some limit has been counted out. -/
def Block.limitOut (b : Block) : Bool := (b.film.moves && b.film.limitOut) || b.link.limitOut

/-- The timeouts of the limits that have been counted out, the film's before the printer's (R69, R75, R141, log 10). -/
def runOut (b : Block) : Block := replyTimeoutOp (rewindTimeoutOp (advanceTimeoutOp b))

/-- An increment of the stand clock, at which the limits counted from it run out (R171, log 9). It stops in reset. -/
def clockTick (b : Block) : Block :=
  if b.inReset then b
  else if (countTick b).limitOut then settle (runOut (countTick b))
  else countTick b

/-- A read of the stand clock (R15, R171). -/
def clockRead (b : Block) : Block := releaseLock (answer b.stand.clock b)

/-! ## Notices and the refused address -/

/-- A write of the notice flags word clears each flag whose bit is 1 (R173). -/
def flagsWrite (v : Word) (b : Block) : Block :=
  b.setStand { b.stand with flags := b.stand.flags &&& ~~~ (v.extractLsb' 0 8) }

/-- A write of the notice levels word (R174). -/
def levelsWrite (v : Word) (b : Block) : Block := b.setStand { b.stand with levels := v }

/-- A read of the refused address's low word (R158). -/
def refusedLowRead (b : Block) : Block :=
  answer (b.path.refusedAddr.extractLsb' 0 16)
    (b.setPath { b.path with refusedStage := (b.path.refusedAddr.extractLsb' 16 2).setWidth 16 })

/-! ## Memory words that Stand Control and the Exposure Unit watch or guard -/

/-- A write at a target, carried through the memory port. -/
def storeAt (t : Target) (v : Word) (b : Block) : Block := memoryAccess (.write (addrOf b.path.straps t) v) b

/-- A write to the settings record (R166, log 13). -/
def settingsWrite (w : Fin 32) (v : Word) (b : Block) : Block := guardedWrite (.settings w) v b

/-! ## Commands -/

/-- RUN (R165). -/
def execRun (s : State) : Host.Outcome State Fault Refusal := event (fun b => settle (writeAt (.stand 0) 1 runOp b)) s

/-- HOLD (R168). -/
def execHold (s : State) : Host.Outcome State Fault Refusal := event (fun b => settle (writeAt (.stand 0) 2 holdOp b)) s

/-- SOFT_RESET (R169). -/
def execSoftReset (s : State) : Host.Outcome State Fault Refusal :=
  event (fun b => settle (writeAt (.stand 0) 3 softResetOp b)) s

/-- STAND_CLOCK_INCREMENT (R171). -/
def execStandClockIncrement (s : State) : Host.Outcome State Fault Refusal := event clockTick s

/-- ADVANCE_TIMEOUT (R69, R71): the increment at which the limit of the advance runs out (log 9). -/
def execAdvanceTimeout (s : State) : Host.Outcome State Fault Refusal :=
  event (fun b => if b.film.advances && b.film.tick.limitOut then clockTick b else b) s

/-- REWIND_TIMEOUT (R75): the increment at which the limit of the rewind runs out (log 9). -/
def execRewindTimeout (s : State) : Host.Outcome State Fault Refusal :=
  event (fun b => if decide (b.film.st = .rewinding) && b.film.tick.limitOut then clockTick b else b) s

/-- REPLY_TIMEOUT (R141): the increment at which the reply limit runs out (log 9). -/
def execReplyTimeout (s : State) : Host.Outcome State Fault Refusal :=
  event (fun b => if b.link.tick.limitOut then clockTick b else b) s

/-- STAND_CLOCK_READ (R171). -/
def execStandClockRead (s : State) : Host.Outcome State Fault Refusal :=
  event (fun b => settle (readAt (.stand 5) clockRead b)) s

/-- NOTICE_FLAGS_WRITE (R173). -/
def execNoticeFlagsWrite (v : Word) (s : State) : Host.Outcome State Fault Refusal :=
  event (writeAt (.stand 1) v (flagsWrite v)) s

/-- NOTICE_LEVELS_WRITE (R174). -/
def execNoticeLevelsWrite (v : Word) (s : State) : Host.Outcome State Fault Refusal :=
  event (writeAt (.stand 2) v (levelsWrite v)) s

/-- REFUSED_ADDRESS_LOW_READ (R158). -/
def execRefusedAddressLowRead (s : State) : Host.Outcome State Fault Refusal := event (readAt (.stand 3) refusedLowRead) s

/-- SETTINGS_RECORD_WRITE (R166); the copy follows as the arbiter serves the write. -/
def execSettingsRecordWrite (w : Fin 32) (v : Word) (s : State) : Host.Outcome State Fault Refusal :=
  event (fun b => settle (writeAt (.settings w) v (settingsWrite w v) b)) s

/-- SCHEME_WRITE (R52); the scheme shadow follows as the arbiter serves the write. -/
def execSchemeWrite (m : Fin 8) (w : Fin 8) (v : Word) (s : State) : Host.Outcome State Fault Refusal :=
  event (fun b => settle (writeAt (.scheme m w) v (storeAt (.scheme m w) v) b)) s

/-- DAY_WORD_WRITE (R172); the day copy follows as the arbiter serves the write. -/
def execDayWordWrite (v : Word) (s : State) : Host.Outcome State Fault Refusal :=
  event (fun b => settle (writeAt (.stand 6) v (storeAt (.stand 6) v) b)) s

end Sys2Proof.Machine
end

