-- ==== Sys2Proof/Machine/PathUnit.lean ====
section
/-! DEFINITION. Path Unit (chapter 9): what each controller address answers and takes, word by word (R153-R156, chapter 11). -/

namespace Sys2Proof.Machine

/-! ## Live words of the stand block (R181) -/

/-- The stand word (R164). -/
def standWord (s : Stand) : Word :=
  word (s.st.code + flagBit s.softReset * 4 + (match s.status with | none => 255 | some i => i.val) * 256)

/-- The gate command word (R21). -/
def gateWord (g : Gate) : Word :=
  word (g.st.code + flagBit g.withdrawPending * 8 + flagBit g.resetPending * 16)

/-- Word `k` of the outcome record (R42). -/
def outcomeWord (o : OutcomeRecord) (k : Nat) : Word :=
  match k with
  | 0 => o.ref
  | 1 => o.reading.setWidth 16
  | 2 => word o.density
  | 3 => word o.code.code
  | 4 => word o.served
  | 5 => word o.rollShort
  | 6 => word o.fundsShort
  | 7 => word o.accountFault
  | 8 => word o.accountStopped
  | 9 => word o.listFull
  | 10 => word o.dropped
  | 11 => word o.exposed
  | _ => word o.uncalibrated

/-- A page field: 0-3, all ones for none (R178). -/
def pageField : Option (Fin 4) → Nat
  | none => 7
  | some p => p.val

/-- The film word (R64). -/
def filmWord (f : Film) : Word :=
  word (f.st.code + f.lastCommand.code * 8 + flagBit f.running * 32 + pageField f.page * 64 + f.interrupted.code * 512
    + f.pulses * 2048)

/-- The film count word (R64). -/
def filmCountWord (f : Film) : Word := word (f.used + f.length * 256)

/-- The low and the high printer link word (R139). -/
def linkLowWord (l : Link) : Word :=
  word (l.st.code + l.stall.code * 8 + flagBit l.parityError * 64 + flagBit l.framingError * 128 + l.stray * 256
    + flagBit l.settingsPending * 4096 + (match l.message with | none => 0 | some m => m.1.val) * 8192)
def linkHighWord (l : Link) : Word :=
  word (l.lastReply.toNat + (match l.message with | none => 0 | some m => m.2.val + 1) * 256)

/-- The account gate word (R106). -/
def accountGateWord (b : Block) : Word :=
  word (flagBit b.nv.gateOpen + portStateCode b.nv * 4 + b.charges.queue.length * 256)

/-- The fill word (R114). -/
def fillWord (n : Nv) : Word := word (n.fill.code + n.progress * 256)

/-- The last faulted account (R100, R178). -/
def lastFaultedWord (c : Charges) : Word :=
  match c.lastFaulted with
  | none => 0xFFFF
  | some a => word a.val

/-- The value of a stand word whose read has no effect; 0 for a word without a field (R153, R177). -/
def standValue (b : Block) (w : Fin 64) : Word :=
  match w.val with
  | 0 => standWord b.stand
  | 1 => b.stand.flags.setWidth 16
  | 2 => b.stand.levels
  | 4 => b.path.refusedStage
  | 7 => b.gate.staged
  | 8 => gateWord b.gate
  | 9 | 10 | 11 | 12 | 13 | 14 | 15 | 16 | 17 | 18 | 19 | 20 | 21 => outcomeWord b.gate.outcome (w.val - 9)
  | 22 => filmWord b.film
  | 23 => filmCountWord b.film
  | 24 => linkLowWord b.link
  | 25 => linkHighWord b.link
  | 26 => accountGateWord b
  | 27 => fillWord b.nv
  | 28 => lowHalf b.nv.opening
  | 29 => highHalf b.nv.opening
  | 31 => b.charges.readStage
  | 32 => lastFaultedWord b.charges
  | _ => 0

/-- A controller read of a stand block word, at address `a` (R155). -/
def standRead (a : Nat) (w : Fin 64) (b : Block) : Block :=
  match w.val with
  | 3 => refusedLowRead b
  | 5 => clockRead b
  | 6 => memoryAccess (.read a) b
  | 30 => unpostedLowRead b
  | _ => answer (standValue b w) b

/-! ## The gate list view (R43, R184) -/

/-- Word `w` of an entry. -/
def entryWord (e : Entry) (w : Nat) : Word :=
  match w with
  | 0 => word (e.slot.val + e.st.code * 256 + flagBit e.deactivated * 2048 + e.reason.code * 4096)
  | 1 => word (e.planned + e.exposed * 256)
  | 2 => word e.hold
  | _ => word (bits (BitVec.ofNat 16 (e.hold / 65536)) 0 4 + e.skipped * 256)

/-- Word `w` at position `k` of the view. -/
def viewWord (l : List Entry) (k : Fin 8) (w : Fin 4) : Word :=
  match l[k.val]? with
  | some e => entryWord e w.val
  | none => if w.val = 0 then 0x00FF else 0

/-! ## Controller reads -/

/-- A controller read of an order word (R4). -/
def orderRead (a : Nat) (n : Fin 24) (k : Fin 16) (b : Block) : Block :=
  if k.val = 0 then orderControlRead n b else memoryAccess (.read a) b

/-- A controller read of a template word (R130). -/
def templateRead (a : Nat) (t : Fin 16) (k : Fin 32) (b : Block) : Block :=
  if k.val = 0 then answer (word b.pages.useCount[t]) b else memoryAccess (.read a) b

/-- A controller read of a header word (R77, R119, R120). -/
def headerRead (a : Nat) (p : Fin 4) (k : Fin 8) (b : Block) : Block :=
  match k.val with
  | 6 => answer (word (awaiting b.pages.pages[p])) b
  | 7 => answer 0 b
  | _ => memoryAccess (.read a) b

/-- A controller read at address `a` (R154, R155). -/
def takeRead (a : Nat) (b : Block) : Block :=
  match decodeAddr b.path.straps a with
  | .noMemory => answer 0xFFFF b
  | .nv _ => nvAccess (.read a) b
  | .stand w => standRead a w b
  | .order n k => orderRead a n k b
  | .gateView k w => answer (viewWord b.gate.list k w) b
  | .template t k => templateRead a t k b
  | .header p k => headerRead a p k b
  | _ => memoryAccess (.read a) b

/-! ## Controller writes -/

/-- A write to the stand word (R164). -/
def standWordWrite (v : Word) (b : Block) : Block :=
  match bits v 0 2 with
  | 1 => runOp b
  | 2 => holdOp b
  | 3 => softResetOp b
  | _ => refuseAt (.stand 0) b

/-- A write to the gate command word (R21). -/
def gateWordWrite (v : Word) (b : Block) : Block :=
  match bits v 0 2 with
  | 1 => arriveOp b
  | 2 => withdrawOp b
  | _ => refuseAt (.stand 8) b

/-- A write to the film word (R65). -/
def filmWordWrite (v : Word) (b : Block) : Block :=
  match bits v 8 8 with
  | 1 => loadOp (bits v 0 8) b
  | 2 => unloadOp b
  | 3 => retryOp b
  | _ => refuseAt (.stand 22) b

/-- A write to the account gate word (R106). -/
def accountGateWrite (v : Word) (b : Block) : Block :=
  match bits v 0 2 with
  | 1 => openOp b
  | 2 => closeOp b
  | _ => refuseAt (.stand 26) b

/-- A write to a stand block word, at address `a` (R155, R177, R181). -/
def standWrite (a : Nat) (w : Fin 64) (v : Word) (b : Block) : Block :=
  match w.val with
  | 0 => standWordWrite v b
  | 1 => flagsWrite v b
  | 2 => levelsWrite v b
  | 3 | 4 => b
  | 6 => memoryAccess (.write a v) b
  | 7 => b.setGate { b.gate with staged := v }
  | 8 => gateWordWrite v b
  | 22 => filmWordWrite v b
  | 24 => if bits v 0 2 = 1 then resumeOp b else refuseAt (.stand 24) b
  | 26 => accountGateWrite v b
  | 27 => if bits v 0 2 = 1 then fillOp b else refuseAt (.stand 27) b
  | 28 => openingWrite false v b
  | 29 => openingWrite true v b
  | 30 => unpostedLowWrite v b
  | 31 => unpostedHighWrite v b
  | 32 => lastFaultedWrite b
  | _ => refuseAt (.stand w) b

/-- A write to a header word (R77, R120). -/
def headerWrite (p : Fin 4) (k : Fin 8) (v : Word) (b : Block) : Block :=
  if k.val = 7 then
    match bits v 0 2 with
    | 1 => returnOp p b
    | 2 => discardOp p b
    | _ => refuseAt (.header p 7) b
  else refuseAt (.header p k) b

/-- A write to a frame record word (R80, R128, R129). -/
def frameWrite (p : Fin 4) (f : Fin 72) (k : Fin 6) (v : Word) (b : Block) : Block :=
  if k.val = 3 then
    match bits v 0 2 with
    | 1 => spoilCommand p f b
    | 2 => reprintOp p f b
    | 3 => acceptOp p f b
    | _ => refuseAt (.frame p f 3) b
  else refuseAt (.frame p f k) b

/-- A controller write of `v` at address `a` (R154-R156). -/
def takeWrite (a : Nat) (v : Word) (b : Block) : Block :=
  match decodeAddr b.path.straps a with
  | .noMemory => b
  | .nv _ => nvAccess (.write a v) b
  | .stand w => standWrite a w v b
  | .settings w => settingsWrite w v b
  | .order n k => orderWrite n k v b
  | .gateView k w => refuseAt (.gateView k w) b
  | .template t k => templateWrite t k v b
  | .header p k => headerWrite p k v b
  | .frame p f k => frameWrite p f k v b
  | .plain _ | .exposure _ | .scheme _ _ => memoryAccess (.write a v) b

/-- A controller access that is not held is decoded and taken (R151). -/
def takeAccess (a : Access) (b : Block) : Block :=
  match a with
  | .read x => takeRead x b
  | .write x v => takeWrite x v b

/-- A held access, unless it is still held, is taken (R159, R163, R175). -/
def takeHeld (b : Block) : Block :=
  match b.path.bus with
  | .held a => if b.holds a then b else takeAccess a (setBus .idle b)
  | _ => b

/-! ## Commands -/

/-- REFUSED_WRITE (R157, log 33): a write to a word with no row of its own, taken as its address decodes. -/
def execRefusedWrite (a : Nat) (v : Word) (s : State) : Host.Outcome State Fault Refusal :=
  event (fun b => settle (onBus (.write a v) (takeWrite a v) b)) s

/-- CONTROLLER_MEMORY_ACCESS (R154, log 33): an access taken as its address decodes. -/
def execControllerMemoryAccess (a : Access) (s : State) : Host.Outcome State Fault Refusal :=
  event (fun b => settle (onBus a (takeAccess a) b)) s

end Sys2Proof.Machine
end

