-- ==== Sys2Proof/Machine/Completions.lean ====
section
/-! DEFINITION. The completion of word accesses on the memory port (R160), and what the end of each set means to its owner. -/

namespace Sys2Proof.Machine

/-- The controller's access on the memory port completes (R154): a read returns its word. -/
def controllerDone (got : List Word) (b : Block) : Block :=
  match b.path.bus with
  | .memory (.read _) => answer (got.headD 0) (setBus .idle b)
  | _ => setBus .idle b

/-- The last initialisation write completes (R175): the stand is HELD, and a held window access is taken. -/
def initialisationDone (b : Block) : Block := takeHeld (standHeld b)

/-- What the completion of the last access of a set means to its owner; `spoils`: a SPOIL comes next (log 35). -/
def ownerDone (spoils : Bool) (owner : Owner) (got : List Word) (b : Block) : Block :=
  match owner with
  | .controller => controllerDone got b
  | .ctlNvRead => ctlNvReadDone got b
  | .ctlAccountRead => accountReadDone got b
  | .windowInit => initialisationDone b
  | .writeBack n notice => writeBackDone n notice b
  | .skipBase r => baseReadDone r got b
  | .resultLoad known => resultReadsDone known got b
  | .tableRead => tableReadDone (got.headD 0) b
  | .planningRead => planningReadDone got b
  | .postingRead => postingReadDone spoils got b
  | .fillRead => fillReadDone got b
  | .compose p f => compositionDone p f got b
  | .pageWrites | .ctlAccountWrite | .ctlGeneralWrite | .postingWrite | .fillWrite | .lost => b

/-- The memory port is free. -/
def freePort (b : Block) : Block := b.setPath { b.path with port := none }

/-- The access in service completes, if it is one that `sel` picks: the end of its set, if it is the last, then the next
access is taken (R160). -/
def completePort (spoils : Bool) (sel : Service → Bool) (b : Block) : Block :=
  match b.path.port with
  | none => b
  | some s =>
    if sel s then settle (if s.last then ownerDone spoils s.owner s.got (freePort b) else freePort b) else b

/-- The event in which the access in service completes. -/
def completing (sel : Service → Bool) (s : State) : Host.Outcome State Fault Refusal :=
  event (completePort (spoilNext s.pending) sel) s

/-- The last access of a set of such an owner. -/
def lastOf (p : Owner → Bool) (s : Service) : Bool := s.last && p s.owner

/-! ## Owners, kind by kind -/

def Owner.isWriteBack : Owner → Bool | .writeBack _ _ => true | _ => false
def Owner.isSkipBase : Owner → Bool | .skipBase _ => true | _ => false
def Owner.isResultLoad : Owner → Bool | .resultLoad _ => true | _ => false
def Owner.isCompose : Owner → Bool | .compose _ _ => true | _ => false
def Owner.is (o : Owner) (x : Owner) : Bool := decide (x = o)

/-! ## Commands -/

/-- MEMORY_ACCESS_COMPLETE (R160): any access. -/
def execMemoryAccessComplete (s : State) : Host.Outcome State Fault Refusal := completing (fun _ => true) s

/-- WRITE_BACK_COMPLETE (R12). -/
def execWriteBackComplete (s : State) : Host.Outcome State Fault Refusal := completing (lastOf Owner.isWriteBack) s

/-- SKIP_BASE_READ_COMPLETE (R10). -/
def execSkipBaseReadComplete (s : State) : Host.Outcome State Fault Refusal :=
  completing (lastOf Owner.isSkipBase) s

/-- PLANNING_READ_COMPLETE (R87). -/
def execPlanningReadComplete (s : State) : Host.Outcome State Fault Refusal :=
  completing (lastOf (Owner.is .planningRead)) s

/-- RESULT_COPY_LOADED (R9). -/
def execResultCopyLoaded (s : State) : Host.Outcome State Fault Refusal := completing (lastOf Owner.isResultLoad) s

/-- EXPOSURE_TABLE_READ_COMPLETE (R56). -/
def execExposureTableReadComplete (s : State) : Host.Outcome State Fault Refusal :=
  completing (lastOf (Owner.is .tableRead)) s

/-- POSTING_READ_COMPLETE (R96). -/
def execPostingReadComplete (s : State) : Host.Outcome State Fault Refusal :=
  completing (lastOf (Owner.is .postingRead)) s

/-- FILL_STEP_READ_COMPLETE (R115). -/
def execFillStepReadComplete (s : State) : Host.Outcome State Fault Refusal :=
  completing (lastOf (Owner.is .fillRead)) s

/-- CONTROLLER_NV_READ_COMPLETE (R111). -/
def execControllerNvReadComplete (s : State) : Host.Outcome State Fault Refusal :=
  completing (lastOf (Owner.is .ctlNvRead)) s

/-- ACCOUNT_WRITE_READ_COMPLETE (R112). -/
def execAccountWriteReadComplete (s : State) : Host.Outcome State Fault Refusal :=
  completing (lastOf (Owner.is .ctlAccountRead)) s

/-- COMPOSITION_COMPLETE (R134). -/
def execCompositionComplete (s : State) : Host.Outcome State Fault Refusal := completing (lastOf Owner.isCompose) s

/-- WINDOW_INITIALISATION_END (R175). -/
def execWindowInitialisationEnd (s : State) : Host.Outcome State Fault Refusal :=
  completing (lastOf (Owner.is .windowInit)) s

end Sys2Proof.Machine
end

