-- ==== Sys2Proof/Machine/Resets.lean ====
section
/-! DEFINITION. Power-on, the reset pin and supply-low (R175, R176, and each chapter's "State after reset"). -/

namespace Sys2Proof.Machine

/-! ## What stands across a reset -/

/-- The owner of an access in service once its owner's state is lost: a controller RAM access and a controller NV read run to
completion as themselves (R163). Any other completes for nobody, the word accesses of a controller NV write among them (the model's
choice, log 23). -/
def Owner.afterReset : Owner → Owner
  | .controller => .controller
  | .ctlNvRead => .ctlNvRead
  | _ => .lost

/-- The access in service runs to completion (R163). -/
def portAfterReset (port : Option Service) : Option Service :=
  port.map (fun s => { s with owner := s.owner.afterReset })

/-- Whether the port serves an access of such an owner. -/
def portServes (port : Option Service) (o : Owner) : Bool := port.any (fun s => decide (s.owner = o))

/-- The controller's access stays: in service on the port, or held (R163). A controller NV write that the Account Store Port had
taken is held and judged again, whatever word access of it is in service (the model's choice, log 23). -/
def busAfterReset (p : Path) : Bus :=
  match p.bus with
  | .idle => .idle
  | .held a => .held a
  | .memory a => if portServes p.port .controller then .memory a else .held a
  | .nvWait a => .held a
  | .nvTaken a => if portServes p.port .ctlNvRead then .nvTaken a else .held a

/-- The Path Unit at a reset (R163): the straps stand until they are read again. -/
def pathAfterReset (p : Path) : Path :=
  { p with refusedAddr := 0, refusedStage := 0, port := portAfterReset p.port, bus := busAfterReset p, ctlWait := none,
           partList := [] }

/-- Every block at its start values (R18, R44, R62, R83, R103, R118, R135, R150, R163, R175). The NV store, its running write
cycle, RAM, the input levels and the model's own counter stand. -/
def startValues (b : Block) : Block :=
  { b with orders := Orders.start, gate := Gate.start, expo := Exposure.start, film := Film.start b.film.switchClosed,
           pages := Pages.start, charges := Charges.start, nv := Nv.start, link := Link.start, path := pathAfterReset b.path,
           stand := Stand.start }

/-! ## A failed supply (R117, R176) -/

/-- What is left of the running write cycle when the supply fails: each word holds a free value (log 8). -/
def tornWords (count : Nat) (l : List (Nat × Word)) : List (Nat × Word) :=
  l.zipIdx.map (fun x => (x.1.1, Config.tornWord (count + x.2)))

/-- The memories and the port when the supply has failed: RAM is lost, a running write cycle is torn. A controller access that was
in service on the memory port is held on the bus and taken again as the part starts (the model's choice, log 8). -/
def supplyFails (b : Block) : Block :=
  let cycle := b.nvCycle.getD []
  let b1 := b.setPath { b.path with port := none, bus := busAfterReset { b.path with port := none } }
  ((b1.setMem (storeWords (nvCells b.mem) (tornWords b.freeCount cycle))).setNvCycle none).setFreeCount
    (b.freeCount + cycle.length)

/-- The supply failed before this power-on, or only dipped. -/
def afterSupply (failed : Bool) (b : Block) : Block := if failed then supplyFails b else b

/-! ## Starting -/

/-- The part starts (R175): the straps are read, the window initialisation is issued, a held access is taken unless it is
for the window. -/
def startPart (straps : BitVec 2) (b : Block) : Block :=
  let b1 := startValues b
  let b2 := b1.setPath { b1.path with straps := straps }
  takeHeld (issue .windowInit (.init 0) b2)

/-- The part starts unless the reset pin or supply-low holds it. -/
def startUnlessHeld (straps : BitVec 2) (b : Block) : Block := if b.inReset then startValues b else startPart straps b

/-! ## The five events -/

/-- Power-on (R175). -/
def powerOnOp (straps : BitVec 2) (failed : Bool) (b : Block) : Block :=
  startUnlessHeld straps ((afterSupply failed b).setPins b.resetPin false)

/-- The reset pin is asserted (R175). -/
def pinAssert (b : Block) : Block := startValues (b.setPins true b.supplyLow)

/-- The reset pin is released (R175); a pin that is not asserted cannot be released (log 1). -/
def pinRelease (straps : BitVec 2) (b : Block) : Block :=
  if b.resetPin then startUnlessHeld straps (b.setPins false b.supplyLow) else b

/-- What R103, R117 (a fill in progress) and R163 keep from supply-low until the power-on that follows (log 20). -/
def keepUntilPowerOn (old : Block) (b : Block) : Block :=
  let c := old.charges
  let b1 := b.setCharges { c with reserved := 0, applying := false }
  let b2 :=
    if old.nv.fill = .filling then b1.setNv { b1.nv with fill := .filling, progress := old.nv.progress } else b1
  b2.setPath { b2.path with refusedAddr := old.path.refusedAddr, refusedStage := old.path.refusedStage }

/-- Supply-low is asserted (R176). -/
def supplyLowOp (b : Block) : Block :=
  let b1 := startValues (b.setPins b.resetPin true)
  if b.resetPin then b1 else keepUntilPowerOn b b1

/-- The supply is good again (R176); it can only return when it was low (log 1). -/
def supplyGoodOp (straps : BitVec 2) (failed : Bool) (b : Block) : Block :=
  if b.supplyLow then startUnlessHeld straps ((afterSupply failed b).setPins b.resetPin false) else b

/-! ## Commands -/

/-- POWER_ON (R175). -/
def execPowerOn (straps : BitVec 2) (failed : Bool) (s : State) : Host.Outcome State Fault Refusal :=
  event (fun b => settle (powerOnOp straps failed b)) s

/-- RESET_PIN_ASSERT (R175). -/
def execResetPinAssert (s : State) : Host.Outcome State Fault Refusal := event pinAssert s

/-- RESET_PIN_RELEASE (R175). -/
def execResetPinRelease (straps : BitVec 2) (s : State) : Host.Outcome State Fault Refusal :=
  event (fun b => settle (pinRelease straps b)) s

/-- SUPPLY_LOW (R176). -/
def execSupplyLow (s : State) : Host.Outcome State Fault Refusal := event supplyLowOp s

/-- SUPPLY_GOOD (R176). -/
def execSupplyGood (straps : BitVec 2) (failed : Bool) (s : State) : Host.Outcome State Fault Refusal :=
  event (fun b => settle (supplyGoodOp straps failed b)) s

end Sys2Proof.Machine
end

