-- ==== Sys2Proof/Machine/Dispatch.lean ====
section
/-! DEFINITION. One arm for each command: its meaning. -/

namespace Sys2Proof.Machine

/-- What a command does to everything but the queue. -/
def exec (i : Instr) (s : State) : Host.Outcome State Fault Refusal :=
  match i with
  | .orderControlRead slot => Sys2Proof.Machine.execOrderControlRead slot s
  | .orderControlWrite slot value => Sys2Proof.Machine.execOrderControlWrite slot value s
  | .orderSetupWrite slot word value => Sys2Proof.Machine.execOrderSetupWrite slot word value s
  | .orderResultWordWrite slot word value => Sys2Proof.Machine.execOrderResultWordWrite slot word value s
  | .writeBackComplete => Sys2Proof.Machine.execWriteBackComplete s
  | .skipBaseReadComplete => Sys2Proof.Machine.execSkipBaseReadComplete s
  | .arrivalReferenceWrite value => Sys2Proof.Machine.execArrivalReferenceWrite value s
  | .arrive => Sys2Proof.Machine.execArrive s
  | .withdraw => Sys2Proof.Machine.execWithdraw s
  | .conversionCompletion reading => Sys2Proof.Machine.execConversionCompletion reading s
  | .planningReadComplete => Sys2Proof.Machine.execPlanningReadComplete s
  | .resultCopyLoaded => Sys2Proof.Machine.execResultCopyLoaded s
  | .exposureTableReadComplete => Sys2Proof.Machine.execExposureTableReadComplete s
  | .exposureCompletion => Sys2Proof.Machine.execExposureCompletion s
  | .load length => Sys2Proof.Machine.execLoad length s
  | .unload switchClosed => Sys2Proof.Machine.execUnload switchClosed s
  | .retry switchClosed => Sys2Proof.Machine.execRetry switchClosed s
  | .perforationPulse => Sys2Proof.Machine.execPerforationPulse s
  | .advanceTimeout => Sys2Proof.Machine.execAdvanceTimeout s
  | .endOfFilmSwitchClosing => Sys2Proof.Machine.execEndOfFilmSwitchClosing s
  | .rewindTimeout => Sys2Proof.Machine.execRewindTimeout s
  | .standClockIncrement => Sys2Proof.Machine.execStandClockIncrement s
  | .standClockRead => Sys2Proof.Machine.execStandClockRead s
  | .postingReadComplete => Sys2Proof.Machine.execPostingReadComplete s
  | .postingWriteComplete => Sys2Proof.Machine.execPostingWriteComplete s
  | .unpostedTotalLowRead => Sys2Proof.Machine.execUnpostedTotalLowRead s
  | .unpostedTotalLowWrite value => Sys2Proof.Machine.execUnpostedTotalLowWrite value s
  | .unpostedTotalHighWrite value => Sys2Proof.Machine.execUnpostedTotalHighWrite value s
  | .lastFaultedAccountWrite value => Sys2Proof.Machine.execLastFaultedAccountWrite value s
  | .openGate => Sys2Proof.Machine.execOpenGate s
  | .closeGate => Sys2Proof.Machine.execCloseGate s
  | .fill => Sys2Proof.Machine.execFill s
  | .openingAmountWrite high value => Sys2Proof.Machine.execOpeningAmountWrite high value s
  | .fillStepReadComplete => Sys2Proof.Machine.execFillStepReadComplete s
  | .fillStepComplete => Sys2Proof.Machine.execFillStepComplete s
  | .controllerNvRead word => Sys2Proof.Machine.execControllerNvRead word s
  | .controllerNvReadComplete => Sys2Proof.Machine.execControllerNvReadComplete s
  | .accountTableWrite account word value => Sys2Proof.Machine.execAccountTableWrite account word value s
  | .accountWriteReadComplete => Sys2Proof.Machine.execAccountWriteReadComplete s
  | .accountWriteComplete => Sys2Proof.Machine.execAccountWriteComplete s
  | .generalAreaWrite word value => Sys2Proof.Machine.execGeneralAreaWrite word value s
  | .generalAreaWriteComplete => Sys2Proof.Machine.execGeneralAreaWriteComplete s
  | .nvReadyAfterReset => Sys2Proof.Machine.execNvReadyAfterReset s
  | .returnPage page => Sys2Proof.Machine.execReturn page s
  | .discard page => Sys2Proof.Machine.execDiscard page s
  | .spoil page frame => Sys2Proof.Machine.execSpoil page frame s
  | .reprint page frame => Sys2Proof.Machine.execReprint page frame s
  | .accept page frame => Sys2Proof.Machine.execAccept page frame s
  | .templateLineWrite template word value => Sys2Proof.Machine.execTemplateLineWrite template word value s
  | .compositionComplete => Sys2Proof.Machine.execCompositionComplete s
  | .messageEnd => Sys2Proof.Machine.execMessageEnd s
  | .byteArrival data parityBit stopBit => Sys2Proof.Machine.execByteArrival data parityBit stopBit s
  | .replyTimeout => Sys2Proof.Machine.execReplyTimeout s
  | .resume => Sys2Proof.Machine.execResume s
  | .run => Sys2Proof.Machine.execRun s
  | .hold => Sys2Proof.Machine.execHold s
  | .softReset => Sys2Proof.Machine.execSoftReset s
  | .settingsRecordWrite word value => Sys2Proof.Machine.execSettingsRecordWrite word value s
  | .schemeWrite scheme word value => Sys2Proof.Machine.execSchemeWrite scheme word value s
  | .dayWordWrite value => Sys2Proof.Machine.execDayWordWrite value s
  | .noticeFlagsWrite value => Sys2Proof.Machine.execNoticeFlagsWrite value s
  | .noticeLevelsWrite value => Sys2Proof.Machine.execNoticeLevelsWrite value s
  | .refusedAddressLowRead => Sys2Proof.Machine.execRefusedAddressLowRead s
  | .refusedWrite addr value => Sys2Proof.Machine.execRefusedWrite addr value s
  | .controllerMemoryAccess access => Sys2Proof.Machine.execControllerMemoryAccess access s
  | .memoryAccessComplete => Sys2Proof.Machine.execMemoryAccessComplete s
  | .windowInitialisationEnd => Sys2Proof.Machine.execWindowInitialisationEnd s
  | .powerOn straps supplyFailed => Sys2Proof.Machine.execPowerOn straps supplyFailed s
  | .resetPinAssert => Sys2Proof.Machine.execResetPinAssert s
  | .resetPinRelease straps => Sys2Proof.Machine.execResetPinRelease straps s
  | .supplyLow => Sys2Proof.Machine.execSupplyLow s
  | .supplyGood straps supplyFailed => Sys2Proof.Machine.execSupplyGood straps supplyFailed s
  | .transmitStopBitEnd => Sys2Proof.Machine.execTransmitStopBitEnd s
  | .receiveLineReturnToRest => Sys2Proof.Machine.execReceiveLineReturnToRest s

end Sys2Proof.Machine
end

