-- ==== Sys2Proof/Safety.lean ====
section
/-! DEFINITION. The predicates that statements about the machine are made in: what a state is ready for, what an event may
store to, and the invariants. -/

namespace Sys2Proof.Machine

/-- The controller can reach the window's live words: the part is not in reset, the stand is past STARTING. -/
abbrev Block.awake (b : Block) : Prop := b.inReset = false ∧ b.stand.st ≠ .starting

/-- The controller can reach the window: no access is on the bus, the part is not in reset, the stand is past STARTING. -/
abbrev Block.reached (b : Block) : Prop := b.path.bus = .idle ∧ b.inReset = false ∧ b.stand.st ≠ .starting

/-- Byte `x` lies in the word at the even address of `a`. -/
def inWord (a x : Nat) : Prop := evenAddr a ≤ x ∧ x ≤ evenAddr a + 1

/-- The access in service on the memory port writes byte `x`. -/
def Block.portWrites (b : Block) (x : Nat) : Prop := ∃ s a v, b.path.port = some s ∧ s.acc = .write a v ∧ inWord a x

/-- The write cycle running inside the NV memory covers byte `x`. -/
def Block.cycleCovers (b : Block) (x : Nat) : Prop := ∃ l, b.nvCycle = some l ∧ ∃ w ∈ l, inWord w.1 x

/-- A command that tells of a supply that has failed: memory is then lost and torn as R117 and log 8 say. -/
def losesSupply : Instr → Bool
  | .powerOn _ failed => failed
  | .supplyGood _ failed => failed
  | _ => false

/-- The memory is in canonical form. -/
def MemoryCanonical (s : State) : Prop := Memory.wf s.part.mem = true

/-- The ACTIVE entry's exposure is in progress. -/
def Block.exposing (b : Block) : Prop := ∃ a, b.gate.active = some a ∧ a.phase = .exposing

/-- The queued postings and the reservations never exceed the places of the queue, and an exposure in progress has its
reservation (R92, R93). -/
def PostingsFit (s : State) : Prop :=
  s.part.charges.queue.length + s.part.charges.reserved ≤ Config.postingPlaces ∧
    (s.part.exposing → 1 ≤ s.part.charges.reserved)

/-- A window offset that no region covers: the two gaps, the last 16 bytes of each page, free RAM (R153, R77, R180). -/
def plainOffset (o : Nat) : Prop :=
  (0x00C0 ≤ o ∧ o < 0x0100) ∨ (0x0540 ≤ o ∧ o < 0x0600) ∨ (0x1800 ≤ o ∧ o < 0x2000)
    ∨ (0x0A00 ≤ o ∧ o < 0x1800 ∧ 0x0370 ≤ (o - 0x0A00) % 0x0380)

/-- Everything but the path, the Account Store Port's claims and the words that follow memory is as before: what the end of an
event keeps. -/
def keptAtEventEnd (b c : Block) : Prop :=
  c.gate = b.gate ∧ c.film = b.film ∧ c.pages = b.pages ∧ c.link = b.link ∧ c.orders.lock = b.orders.lock
    ∧ c.orders.deferred = b.orders.deferred ∧ (∀ n, (c.shadow n).code = (b.shadow n).code
      ∧ (c.shadow n).priority = (b.shadow n).priority ∧ (c.shadow n).writeBacks = (b.shadow n).writeBacks)
    ∧ { c.expo with schemes := b.expo.schemes } = b.expo
    ∧ { c.charges with applying := b.charges.applying } = b.charges
    ∧ c.nv.gateOpen = b.nv.gateOpen ∧ c.nv.fill = b.nv.fill ∧ c.nv.stopping = b.nv.stopping ∧ c.nv.progress = b.nv.progress
    ∧ c.nv.opening = b.nv.opening ∧ c.nv.fillAmount = b.nv.fillAmount
    ∧ c.stand.st = b.stand.st ∧ c.stand.softReset = b.stand.softReset ∧ c.stand.status = b.stand.status
    ∧ c.stand.latched = b.stand.latched ∧ c.stand.clock = b.stand.clock ∧ c.stand.levels = b.stand.levels
    ∧ (∀ n, n ≠ .refused → c.flag n = b.flag n) ∧ c.path.straps = b.path.straps
    ∧ c.resetPin = b.resetPin ∧ c.supplyLow = b.supplyLow ∧ c.freeCount = b.freeCount

end Sys2Proof.Machine
end

