-- ==== Sys2Proof/Certificates/Slice0/Obligations.lean ====
section
/-! DEFINITION. The statements for the provers. Where a statement gives the block before `settle`, `settle` is the end of every
event: the Account Store Port takes a claim if it is free, then the arbiter an access if the memory port is free; what that may
change is stated in EventEndKeeps, NvPortTakesInOrder and ArbiterServesControllerFirst. -/

open Sys2Proof Sys2Proof.Machine

/-! ## The machine as a whole -/

/-- A step takes the command at the front of the queue and runs it on the state with the queue's rest; with an empty queue the
block idles (the model's choice, log 26). -/
def Obligations.StepRunsFrontCommand : Prop :=
  ∀ (c : Instr) (rest : List Instr) (b : Block),
    step { pending := c :: rest, part := b } = exec c { pending := rest, part := b }
      ∧ step { pending := [], part := b } = .next { pending := [], part := b }

/-- Every command answers a next state in every state, and leaves the queue as it is: the guide names no event that stops the
part (the model's choice for events that cannot come about: log 1). -/
def Obligations.EveryCommandCompletes : Prop :=
  ∀ (c : Instr) (s : State), ∃ b, exec c s = .next ⟨s.pending, b⟩

/-- What power-on leaves, each start value written out: every block at its start values, the stand STARTING, the window initialisation
issued with its first write in service, the memory as nothing has written it; and both invariants of this file hold there. The model's
own, beside the guide's: the straps read 0 (log 6), the switch open (log 7), the receiver armed (log 19), 0 in the registers the guide
gives no value (log 25), no word listed in either memory (log 5), freeCount 0 (log 21), no access on the bus and readData 0
(log 22). -/
def Obligations.ResetLeavesStartValuesAndInvariants : Prop :=
  let shadow : Shadow :=
    { code := .idle, priority := 0, ref := 0, mask := 0, account := 0, copies := 0, scheme := 0, template := 0, limit := 0,
      lastServed := 0, served := 0, writeBacks := 0 }
  let outcome : OutcomeRecord :=
    { ref := 0, reading := 0, density := 0, code := .noneYet, served := 0, rollShort := 0, fundsShort := 0, accountFault := 0,
      accountStopped := 0, listFull := 0, dropped := 0, exposed := 0, uncalibrated := 0 }
  let frame : Frame := { label := .none, attempts := 0, template := some 0, account := 0, amount := 0 }
  let page : Page :=
    { st := .free, roll := 0, length := 0, used := 0, day := 0, position := 0, frames := Vector.replicate 72 frame }
  let defaults : Vector Word 32 :=
    #v[0, 0, 40, 1000, 8, 2, 50, 3000, 150, 60, 120, 50, 0, 0, 200, 80, 0, 0, 3, 100, 0, 0, 0, 0, 0, 0, 0, 0, 0, 0, 0, 0]
  Orders.start = { shadows := Vector.replicate 24 shadow, lock := none, deferred := [] }
  ∧ Gate.start =
    { st := .empty, staged := 0, ref := 0, withdrawPending := false, resetPending := false,
      deactivated := Vector.replicate 24 false, list := [], visiting := none, outcome := outcome, active := none, result := none }
  ∧ Exposure.start =
    { lamp := .off, converting := false, reading := 0, density := 0, schemes := Vector.replicate 8 #v[1, 0, 0, 0, 0, 0, 0, 0],
      index := 0, clipped := false, lampTime := 0, stamp := 0 }
  ∧ (∀ closed, Film.start closed =
    { st := .empty, length := 0, used := 0, page := none, pulses := 0, leaderLeft := 0, interrupted := .none,
      lastCommand := .none, running := false, pulsesPerFrame := 0, limit := 0, elapsed := 0, switchClosed := closed })
  ∧ Pages.start =
    { pages := Vector.replicate 4 page, printQueue := [], walkQueue := [], walkPos := 0, rollCounter := 0,
      useCount := Vector.replicate 16 0, composing := false, composeAside := 0 }
  ∧ Charges.start =
    { queue := [], reserved := 0, applying := false, unposted := 0, readStage := 0, writeStage := 0, lastFaulted := none }
  ∧ Nv.start =
    { gateOpen := false, phase := .idle, serving := none, pair := false, latch := [], planClaim := none, fillClaim := false,
      fill := .idle, stopping := false, progress := 0, opening := 0, fillAmount := 0 }
  ∧ Link.start =
    { st := .off, enable := false, parity := .none, rate := 3, replyLimit := 100, settingsPending := false, message := none,
      bytes := [], next := 0, tx := none, stall := .none, lastReply := 0, parityError := false, framingError := false,
      stray := 0, elapsed := 0, armed := true }
  ∧ Stand.start =
    { st := .starting, softReset := false, status := none, latched := defaults, copy := Vector.replicate 32 0, clock := 0,
      day := 0, flags := 0, levels := 0 }
  ∧ State.reset =
    { pending := [],
      part :=
        { orders := Orders.start, gate := Gate.start, expo := Exposure.start, film := Film.start false, pages := Pages.start,
          charges := Charges.start, nv := Nv.start, link := Link.start,
          path :=
            { straps := 0, refusedAddr := 0, refusedStage := 0,
              port := some { owner := .windowInit, acc := .write 0x18000 0, data := 0, last := false, got := [] },
              bus := .idle, ctlWait := none, partList := [{ owner := .windowInit, work := .init 1, got := [] }], readData := 0 },
          stand := Stand.start, mem := [], nvCycle := none, resetPin := false, supplyLow := false, freeCount := 0 } }
  ∧ MemoryCanonical State.reset ∧ PostingsFit State.reset

/-- Every step keeps the memory's canonical form. -/
def Obligations.MemoryCanonicalKept : Prop :=
  ∀ s t : State, MemoryCanonical s → step s = .next t → MemoryCanonical t

/-- Every step keeps queued postings and reservations within the queue's eight places, and an exposure in progress its
reservation. -/
def Obligations.PostingsFitKept : Prop := ∀ s t : State, PostingsFit s → step s = .next t → PostingsFit t

/-- The address map: each target's address, and the odd address above it, decodes to that target, for every strap setting; the
words that no region covers are plain; above the NV store there is no memory. -/
def Obligations.AddressMapRoundTrips : Prop :=
  ∀ (straps : BitVec 2) (t : Target) (bit : Nat), bit ≤ 1 →
    match t with
    | .noMemory => ∀ a, 0x22000 ≤ a → decodeAddr straps a = .noMemory
    | .plain a =>
      a % 2 = 0 → a < nvBase → (inWindow straps a = false ∨ plainOffset (a - windowBase straps)) →
        decodeAddr straps (a + bit) = .plain a
    | _ => decodeAddr straps (addrOf straps t + bit) = t

/-- The frame of memory, for every command that does not tell of a failed supply (log 8): a byte outside the word that the access
in service afterwards writes, and outside the write cycle that was running, reads as before; and a byte of the NV store changes
only when the running write cycle covered it and the command is one of the five ready events. -/
def Obligations.MemoryBytesStand : Prop :=
  (∀ (c : Instr) (s t : State) (x : Nat), MemoryCanonical s → losesSupply c = false → exec c s = .next t →
     ¬ t.part.portWrites x → ¬ s.part.cycleCovers x → Memory.get t.part.mem x = Memory.get s.part.mem x)
  ∧ (∀ (c : Instr) (s t : State) (x : Nat), MemoryCanonical s → losesSupply c = false → exec c s = .next t → nvBase ≤ x →
       Memory.get t.part.mem x ≠ Memory.get s.part.mem x →
         s.part.cycleCovers x
           ∧ c ∈ [Instr.postingWriteComplete, .fillStepComplete, .accountWriteComplete, .generalAreaWriteComplete,
             .nvReadyAfterReset])

/-- What the end of an event leaves as it is (`keptAtEventEnd`); with the memory port busy and the Account Store Port not free,
all of it; and memory, unless an access is taken. -/
def Obligations.EventEndKeeps : Prop :=
  ∀ b : Block, keptAtEventEnd b (settle b)
    ∧ (b.path.port.isSome = true → b.nvFree = false → settle b = b)
    ∧ (b.path.port.isSome = true → (settle b).mem = b.mem ∧ (settle b).orders = b.orders ∧ (settle b).expo = b.expo
        ∧ (settle b).stand.copy = b.stand.copy ∧ (settle b).stand.day = b.stand.day)
    ∧ (∀ n : Notice, n = .refused → b.flag n = true → (settle b).flag n = true)

/-- The arbiter: a busy port or a reset takes nothing; a free port takes the next access of the waiting controller's set before
that of the set at the head of the part list, each set whole and in its order: the access is in service with the word it reads, the
rest of the set with what it has got takes its place, the part list keeps its order. A write in RAM is stored and its owner takes
note, but a shadow that leads RAM in word 7 or 8 keeps its value: one with a write-back of the slot that covers the word held or still
to be served (log 36; a controller's write then: log 27). The last word of a write cycle starts it (log 12). A waiting guarded write
whose condition fails is refused in the place of its access, and the head is taken (log 13). The members of the window initialisation
and of a LOAD's clearing (log 39) are written out. -/
def Obligations.ArbiterServesControllerFirst : Prop :=
  (∀ b : Block,
    let fails (a : Nat) : Prop := match decodeAddr b.path.straps a with
      | .settings _ => b.stand.st ≠ .held
      | .template t k => 1 ≤ k.val ∧ k.val ≤ 24 ∧ b.pages.useCount[t] ≠ 0
      | _ => False
    let served (w : WordSet) (acc : WordAcc) (rest : Option Work) : Service :=
      { owner := w.owner, acc := acc, last := rest.isNone,
        data := match acc with | .read a => readWord b.mem a | .write _ _ => 0,
        got := match acc with | .read a => w.got ++ [readWord b.mem a] | .write _ _ => w.got }
    let left (w : WordSet) (acc : WordAcc) (rest : Option Work) : Option WordSet :=
      rest.map (fun x => { w with work := x, got := (served w acc rest).got })
    let done (w : WordSet) (acc : WordAcc) (rest : Option Work) (c : Block) : Block := match acc with
      | .read _ => c
      | .write a v =>
        if a < 0x20000 then noteWrite a v { c with mem := writeWord b.mem a v }
        else if rest = none ∧ (w.owner = .ctlAccountWrite ∨ w.owner = .ctlGeneralWrite ∨ w.owner = .postingWrite
          ∨ w.owner = .fillWrite) then { c with nvCycle := some b.nv.latch }
        else c
    (b.path.port.isSome = true ∨ b.inReset = true → arbitrate b = b)
    ∧ (b.inReset = false → b.path.port = none → b.path.ctlWait = none → b.path.partList = [] → arbitrate b = b)
    ∧ (∀ w acc rest, b.inReset = false → b.path.port = none → b.path.ctlWait = some w →
        (∀ a v, b.path.bus = .memory (.write a v) → ¬ fails a) → nextAcc b w.work = some (acc, rest) →
        arbitrate b = { done w acc rest b with
          path := { b.path with port := some (served w acc rest), ctlWait := left w acc rest } })
    ∧ (∀ w a v, b.inReset = false → b.path.port = none → b.path.ctlWait = some w → b.path.bus = .memory (.write a v) →
        fails a → arbitrate b = arbitrate (refuse a { b with path := { b.path with bus := .idle, ctlWait := none } }))
    ∧ (∀ w tail acc rest, b.inReset = false → b.path.port = none → b.path.ctlWait = none → b.path.partList = w :: tail →
        nextAcc b w.work = some (acc, rest) →
        let taken : Block := { b with path := { b.path with
          partList := (rest.map (fun x => { w with work := x })).toList ++ tail } }
        arbitrate b = { done w acc rest taken with
          path := { b.path with port := some (served w acc rest), partList := (left w acc rest).toList ++ tail } }))
  ∧ (∀ (a : Nat) (v : Word) (b : Block), match decodeAddr b.path.straps a with
      | .order n k => noteWrite a v b = if b.leads n k then b else
          { b with orders := { b.orders with shadows := b.orders.shadows.set n (Shadow.take k v (b.shadow n)) } }
      | .scheme m w => noteWrite a v b =
          { b with expo := { b.expo with schemes := b.expo.schemes.set m (b.expo.schemes[m].set w v) } }
      | .settings w => noteWrite a v b = { b with stand := { b.stand with copy := b.stand.copy.set w v } }
      | .stand w => noteWrite a v b = if w.val = 6 then { b with stand := { b.stand with day := v } } else b
      | _ => noteWrite a v b = b)
  ∧ (∀ (b : Block) (n : Fin 24) (k : Fin 16), b.leads n k = true ↔ (k.val = 7 ∨ k.val = 8) ∧
      ((∃ l h, b.orders.lock = some l ∧ l.slot = n ∧ l.held = some h ∧ h.words[Fin.ofNat 9 (k.val - 7)] ≠ none)
        ∨ ∃ w ∈ b.path.partList, ∃ notice accs v, w.owner = .writeBack n notice ∧ w.work = .words accs
            ∧ .write (addrOf b.path.straps (.order n k)) v ∈ accs))
  ∧ (∀ b : Block,
    let base := windowBase b.path.straps
    (nextAcc b (.words []) = none ∧ (∀ x, nextAcc b (.words [x]) = some (x, none))
      ∧ ∀ x y l, nextAcc b (.words (x :: y :: l)) = some (x, some (.words (y :: l))))
    ∧ (∀ (p : Fin 4) (n : Nat), n < 432 → nextAcc b (.clear p n) =
        some (.write (base + (0x0A10 + 0x380 * p.val + 2 * n)) 0, if n = 431 then none else some (.clear p (n + 1))))
    ∧ (∀ n : Nat, n < 2912 → nextAcc b (.init n) = some
        (if n < 64 then .write (base + 2 * n) 0
         else if n < 96 then .write (base + (0x0080 + 2 * (n - 64))) (settingsDefaults[n - 64]?.getD 0)
         else if n < 160 then .write (base + (0x0100 + 2 * (n - 96))) 0
         else if n < 224 then .write (base + (0x0180 + 2 * (n - 160))) (if (n - 160) % 8 = 0 then 1 else 0)
         else if n < 608 then .write (base + (0x0200 + 2 * (n - 224))) 0
         else if n < 640 then .write (base + (0x0500 + 2 * (n - 608))) 0
         else if n < 1152 then .write (base + (0x0600 + 2 * (n - 640)))
           (if 1 ≤ (n - 640) % 32 ∧ (n - 640) % 32 ≤ 24 then 0x2020 else 0)
         else .write (base + (0x0A00 + 0x380 * ((n - 1152) / 440) + 2 * ((n - 1152) % 440))) 0,
         if n = 2911 then none else some (.init (n + 1)))))

/-- The Account Store Port: it takes nothing unless it is free; a free port takes the controller's access before the planning
read, that before the fill step, that before the head posting, which is not offered while a fill runs. A planning read, a fill step
and a posting issue the reads of words 0 to 7 of the claimed account's record, of the record the progress names, and of the posting's
account; a controller's access waits for the memory port with its own word, or with the seven reads of its record. A waiting write
that the port refuses (gate CLOSED or FILLING) or drops (a check word) leaves the bus, and the port goes on to the next claim. That a
controller's account write goes before a posting that waits with it is R109's order, of which R98 says that either may be taken first
(the model's choice, log 43). -/
def Obligations.NvPortTakesInOrder : Prop :=
  ∀ b : Block,
    let reads (a n : Nat) : List WordAcc := (List.range n).map (fun k => .read (0x20000 + 0x10 * a + 2 * k))
    let issued (o : Owner) (l : List WordAcc) : Path := { b.path with
      partList := b.path.partList ++ [{ owner := o, work := .words l, got := [] }] }
    let taken (x : Access) (o : Owner) (l : List WordAcc) : Path := { b.path with
      bus := .nvTaken x, ctlWait := some { owner := o, work := .words l, got := [] } }
    let offBus : Block := { b with path := { b.path with bus := .idle } }
    let closed := b.nv.gateOpen = false ∨ b.nv.fill = .filling
    (b.nvFree = false → nvTake b = b)
    ∧ (∀ a, b.nvFree = true → b.path.bus = .nvWait (.read a) → nvTake b = { b with
        nv := { b.nv with phase := .reading, serving := some .ctlRead, pair := false },
        path := taken (.read a) .ctlNvRead [.read (evenAddr a)] })
    ∧ (∀ a v, b.nvFree = true → b.path.bus = .nvWait (.write a v) → closed → nvTake b = nvTake (refuse a offBus))
    ∧ (∀ (n : Fin 128) (k : Fin 8) (bit : Nat) (v : Word), bit ≤ 1 → b.nvFree = true → ¬ closed →
        let a := 0x20000 + 0x10 * n.val + 2 * k.val + bit
        b.path.bus = .nvWait (.write a v) →
        (k = 7 → nvTake b = nvTake offBus)
        ∧ (k ≠ 7 → nvTake b = { b with
            nv := { b.nv with phase := .reading, serving := some .ctlAccount, pair := true },
            path := taken (.write a v) .ctlAccountRead (reads n.val 7) }))
    ∧ (∀ a v, b.nvFree = true → ¬ closed → 0x20800 ≤ a → b.path.bus = .nvWait (.write a v) → nvTake b = { b with
        nv := { b.nv with phase := .writing, serving := some .ctlGeneral, pair := false, latch := [(evenAddr a, v)] },
        path := taken (.write a v) .ctlGeneralWrite [.write (evenAddr a) v] })
    ∧ (∀ a, b.nvFree = true → (∀ x, b.path.bus ≠ .nvWait x) → b.nv.planClaim = some a → nvTake b = { b with
        nv := { b.nv with phase := .reading, serving := some .planning, pair := false, planClaim := none },
        path := issued .planningRead (reads a.val 8) })
    ∧ (b.nvFree = true → (∀ x, b.path.bus ≠ .nvWait x) → b.nv.planClaim = none → b.nv.fillClaim = true → b.nv.progress < 128 →
        nvTake b = { b with
          nv := { b.nv with phase := .reading, serving := some .fill, pair := true, fillClaim := false },
          path := issued .fillRead (reads b.nv.progress 8) })
    ∧ (∀ p q, b.nvFree = true → (∀ x, b.path.bus ≠ .nvWait x) → b.nv.planClaim = none → b.nv.fillClaim = false →
        b.charges.queue = p :: q → b.charges.applying = false → b.nv.fill ≠ .filling → nvTake b = { b with
          nv := { b.nv with phase := .reading, serving := some .posting, pair := true },
          charges := { b.charges with applying := true },
          path := issued .postingRead (reads p.account.val 8) })
    ∧ ((∀ x, b.path.bus ≠ .nvWait x) → b.nv.planClaim = none → b.nv.fillClaim = false → b.postingOffered = none → nvTake b = b)
    ∧ (b.nv.fill = .filling ∨ b.charges.applying = true ∨ b.charges.queue = [] ↔ b.postingOffered = none)

/-- A refused write: the REFUSED flag is set, the address is latched with bit 0 as 0 if the flag was clear and kept if it was
set, and nothing else changes. Refused in every state are the writes to words that take none: the gate list view, the outcome
record, the clock, the film count, the printer link's high word, header words but the command, frame words but the label, stand
words without a field; and a command word's write that names no command. -/
def Obligations.RefusedWriteReported : Prop :=
  (∀ (a : Nat) (b : Block),
     refuse a b =
       { b with
         path := { b.path with
           refusedAddr := if b.flag .refused then b.path.refusedAddr else BitVec.ofNat 18 (a / 2 * 2) }
         stand := { b.stand with flags := b.stand.flags ||| 0x40 } })
  ∧ (∀ (t : Target) (v : Word) (s : State), s.part.reached →
    (match t with
      | .gateView _ _ => True
      | .header _ k => k ≠ 7 ∨ v.toNat % 4 = 0 ∨ v.toNat % 4 = 3
      | .frame _ _ k => k ≠ 3 ∨ v.toNat % 4 = 0
      | .stand w => w.val = 5 ∨ (9 ≤ w.val ∧ w.val ≤ 21) ∨ w.val = 23 ∨ w.val = 25 ∨ 33 ≤ w.val ∨ (w.val = 0 ∧ v.toNat % 4 = 0)
          ∨ ((w.val = 8 ∨ w.val = 26) ∧ (v.toNat % 4 = 0 ∨ v.toNat % 4 = 3))
          ∨ (w.val = 22 ∧ (v.toNat / 256 = 0 ∨ 4 ≤ v.toNat / 256)) ∨ ((w.val = 24 ∨ w.val = 27) ∧ v.toNat % 4 ≠ 1)
      | _ => False) →
    exec (.refusedWrite (addrOf s.part.path.straps t) v) s
      = .next ⟨s.pending, settle (refuse (addrOf s.part.path.straps t) s.part)⟩)

/-- A controller access in reset, or to the window during STARTING, is held on the bus and does nothing else. With an access on the
bus, only an access that the path serves at once, without a memory, is taken: a live or command word, a word the controller may
not write, no memory; any other does not begin (log 2). An access to a command word or a live word with a row of its own, whether it
is made as CONTROLLER_MEMORY_ACCESS or REFUSED_WRITE or taken from a hold (`takeAccess`), does what its row does: the command field
picks the row (log 33), and UNLOAD and RETRY read the switch's level as last reported (log 7). -/
def Obligations.HeldAccessesWait : Prop :=
  (∀ (a : Access) (s : State),
    let straps := s.part.path.straps
    let waits := s.part.inReset = true ∨ (s.part.stand.st = .starting ∧ inWindow straps (evenAddr a.addr) = true)
    let atOnce : Prop := match decodeAddr straps a.addr, a with
      | .noMemory, _ => True
      | .gateView _ _, _ => True
      | .stand w, _ => w.val ≠ 6
      | .order _ k, _ => k.val = 0
      | .template _ k, _ => k.val = 0
      | .header _ _, .write _ _ => True
      | .header _ k, .read _ => 6 ≤ k.val
      | .frame _ _ _, .write _ _ => True
      | _, _ => False
    (s.part.path.bus = .idle → waits → exec (.controllerMemoryAccess a) s
        = .next ⟨s.pending, settle { s.part with path := { s.part.path with bus := .held a } }⟩)
    ∧ (¬ waits → s.part.path.bus = .idle ∨ atOnce →
        exec (.controllerMemoryAccess a) s = .next ⟨s.pending, settle (takeAccess a s.part)⟩)
    ∧ (s.part.path.bus ≠ .idle → waits ∨ ¬ atOnce → exec (.controllerMemoryAccess a) s = .next ⟨s.pending, settle s.part⟩))
  ∧ (∀ (v : Word) (s : State), s.part.awake →
    let base := windowBase s.part.path.straps
    let reads (offset : Nat) := exec (.controllerMemoryAccess (.read (base + offset))) s
    let writes (offset : Nat) := exec (.controllerMemoryAccess (.write (base + offset) v)) s
    let field := v.toNat % 4
    let sets (offset : Nat) (c : Instr) := ∃ b, exec c s = .next ⟨s.pending, b⟩ ∧ writes offset = .next ⟨s.pending, settle b⟩
    let closed := s.part.film.switchClosed
    (field = 1 → writes 0x00 = exec .run s) ∧ (field = 2 → writes 0x00 = exec .hold s) ∧ (field = 3 → writes 0x00 = exec .softReset s)
    ∧ (field = 1 → writes 0x10 = exec .arrive s) ∧ (field = 2 → writes 0x10 = exec .withdraw s)
    ∧ (v.toNat / 256 = 1 → writes 0x2C = exec (.load (v.extractLsb' 0 8)) s)
    ∧ (v.toNat / 256 = 2 → writes 0x2C = exec (.unload closed) s) ∧ (v.toNat / 256 = 3 → writes 0x2C = exec (.retry closed) s)
    ∧ (field = 1 → writes 0x30 = exec .resume s) ∧ (field = 1 → sets 0x34 .openGate) ∧ (field = 2 → writes 0x34 = exec .closeGate s)
    ∧ (field = 1 → writes 0x36 = exec .fill s)
    ∧ (∀ p : Fin 4, let head := 0x0A00 + 0x380 * p.val
      (field = 1 → writes (head + 14) = exec (.returnPage p) s) ∧ (field = 2 → writes (head + 14) = exec (.discard p) s)
      ∧ (∀ f : Fin 72, let label := head + 0x10 + 12 * f.val + 6
        (field = 1 → writes label = exec (.spoil p f) s) ∧ (field = 2 → writes label = exec (.reprint p f) s)
        ∧ (field = 3 → writes label = exec (.accept p f) s)))
    ∧ (∀ n : Fin 24, writes (0x0200 + 0x20 * n.val) = exec (.orderControlWrite n v) s)
    ∧ sets 0x02 (.noticeFlagsWrite v) ∧ sets 0x04 (.noticeLevelsWrite v) ∧ sets 0x0E (.arrivalReferenceWrite v)
    ∧ sets 0x38 (.openingAmountWrite false v) ∧ sets 0x3A (.openingAmountWrite true v) ∧ sets 0x3C (.unpostedTotalLowWrite v)
    ∧ sets 0x3E (.unpostedTotalHighWrite v) ∧ sets 0x40 (.lastFaultedAccountWrite v)
    ∧ reads 0x0A = exec .standClockRead s
    ∧ (∃ b, exec .refusedAddressLowRead s = .next ⟨s.pending, b⟩ ∧ reads 0x06 = .next ⟨s.pending, settle b⟩)
    ∧ (∃ b, exec .unpostedTotalLowRead s = .next ⟨s.pending, b⟩ ∧ reads 0x3C = .next ⟨s.pending, settle b⟩)
    ∧ (∀ n : Fin 24, ∃ b, exec (.orderControlRead n) s = .next ⟨s.pending, arbitrate b⟩
        ∧ reads (0x0200 + 0x20 * n.val) = .next ⟨s.pending, settle b⟩)
    ∧ (∀ a : Nat, exec (.refusedWrite a v) s = exec (.controllerMemoryAccess (.write a v)) s))

/-! ## Live registers -/

/-- The live words that a controller write sets take it in the access, also while another access is on the bus, and nothing else
changes: the notice flags (a 1 clears), the notice levels, the staged reference, each half of the opening amount, OPEN in the
account gate word. -/
def Obligations.LiveRegisterWrites : Prop :=
  ∀ (v : Word) (s : State), s.part.awake →
    exec (.noticeFlagsWrite v) s = .next ⟨s.pending, { s.part with stand := { s.part.stand with
        flags := s.part.stand.flags &&& ~~~ (v.extractLsb' 0 8) } }⟩
    ∧ exec (.noticeLevelsWrite v) s = .next ⟨s.pending, { s.part with stand := { s.part.stand with levels := v } }⟩
    ∧ exec (.arrivalReferenceWrite v) s = .next ⟨s.pending, { s.part with gate := { s.part.gate with staged := v } }⟩
    ∧ exec (.openingAmountWrite false v) s = .next ⟨s.pending, { s.part with nv := { s.part.nv with
        opening := s.part.nv.opening.extractLsb' 16 16 ++ v } }⟩
    ∧ exec (.openingAmountWrite true v) s = .next ⟨s.pending, { s.part with nv := { s.part.nv with
        opening := v ++ s.part.nv.opening.extractLsb' 0 16 } }⟩
    ∧ exec .openGate s = .next ⟨s.pending, { s.part with nv := { s.part.nv with gateOpen := true } }⟩

/-- The attention lines carry 0 in reset and during STARTING, else the highest level among the factors whose flags are set, and
0 when none is set. -/
def Obligations.AttentionIsHighestSetLevel : Prop :=
  ∀ b : Block,
    ((b.resetPin = true ∨ b.supplyLow = true ∨ b.stand.st = .starting) → b.attention = 0)
    ∧ (b.resetPin = false → b.supplyLow = false → b.stand.st ≠ .starting →
        (∀ n : Notice, b.flag n = true → levelOf b.stand.levels n.index ≤ b.attention)
          ∧ (b.attention = 0 ∨ ∃ n : Notice, b.flag n = true ∧ levelOf b.stand.levels n.index = b.attention))
    ∧ b.attention ≤ 3

/-- The unposted total: the low word's read answers the low half and stages the high half, the high word's read answers the
staged half; the low word's write stages, the high word's write sets the total; a fault before that write is lost, a fault after
it adds its delta. None of the four writes memory. -/
def Obligations.UnpostedTotalIsStaged : Prop :=
  ∀ (v : Word) (s : State), s.part.reached →
    exec .unpostedTotalLowRead s = .next ⟨s.pending, { s.part with
        charges := { s.part.charges with readStage := s.part.charges.unposted.extractLsb' 16 16 },
        path := { s.part.path with readData := s.part.charges.unposted.extractLsb' 0 16 } }⟩
    ∧ exec (.controllerMemoryAccess (.read (addrOf s.part.path.straps (.stand 31)))) s
        = .next ⟨s.pending, settle { s.part with path := { s.part.path with readData := s.part.charges.readStage } }⟩
    ∧ exec (.unpostedTotalLowWrite v) s = .next ⟨s.pending, { s.part with
        charges := { s.part.charges with writeStage := v } }⟩
    ∧ exec (.unpostedTotalHighWrite v) s = .next ⟨s.pending, { s.part with
        charges := { s.part.charges with unposted := v ++ s.part.charges.writeStage } }⟩
    ∧ (∀ p : Posting,
        (faultPosting p s.part).charges.readStage = s.part.charges.readStage
          ∧ (faultPosting p s.part).charges.writeStage = s.part.charges.writeStage
          ∧ (unpostedHighWrite v (faultPosting p s.part)).charges.unposted = v ++ s.part.charges.writeStage
          ∧ (faultPosting p (unpostedHighWrite v s.part)).charges.unposted
              = satAmount ((v ++ s.part.charges.writeStage : Amount).toInt + p.delta))

/-- The last faulted account: a read answers its number, all ones for none; a write of any value sets it to none and stores
nothing; a faulted posting sets it, whichever of the two is taken last standing. -/
def Obligations.LastFaultedAccountCleared : Prop :=
  ∀ (v : Word) (s : State), s.part.reached →
    exec (.controllerMemoryAccess (.read (addrOf s.part.path.straps (.stand 32)))) s
        = .next ⟨s.pending, settle { s.part with path := { s.part.path with
          readData := (s.part.charges.lastFaulted.map (fun a => BitVec.ofNat 16 a.val)).getD 0xFFFF } }⟩
    ∧ exec (.lastFaultedAccountWrite v) s = .next ⟨s.pending, { s.part with
        charges := { s.part.charges with lastFaulted := none } }⟩
    ∧ (∀ p : Posting, (faultPosting p s.part).charges.lastFaulted = some p.account
        ∧ (lastFaultedWrite (faultPosting p s.part)).charges.lastFaulted = none
        ∧ (faultPosting p (lastFaultedWrite s.part)).charges.lastFaulted = some p.account)

/-- The refused address: the low word's read answers bits 15-0 and stages bits 17-16, the high word's read answers the staged
half, a write to either word changes nothing; power-on with no access on the bus leaves both at 0 and so does a soft reset that is
taken. -/
def Obligations.RefusedAddressIsStaged : Prop :=
  (∀ (v : Word) (s : State), s.part.reached →
    exec .refusedAddressLowRead s = .next ⟨s.pending, { s.part with path := { s.part.path with
        readData := s.part.path.refusedAddr.extractLsb' 0 16,
        refusedStage := (s.part.path.refusedAddr.extractLsb' 16 2).setWidth 16 } }⟩
    ∧ exec (.controllerMemoryAccess (.read (addrOf s.part.path.straps (.stand 4)))) s
        = .next ⟨s.pending, settle { s.part with path := { s.part.path with readData := s.part.path.refusedStage } }⟩
    ∧ exec (.refusedWrite (addrOf s.part.path.straps (.stand 3)) v) s = .next ⟨s.pending, settle s.part⟩
    ∧ exec (.refusedWrite (addrOf s.part.path.straps (.stand 4)) v) s = .next ⟨s.pending, settle s.part⟩
    ∧ (s.part.stand.softReset = false → ∃ b, exec .softReset s = .next ⟨s.pending, b⟩ ∧ b.path.refusedAddr = 0
        ∧ b.path.refusedStage = 0))
  ∧ (∀ (straps : BitVec 2) (failed : Bool) (s : State), s.part.path.bus = .idle →
    ∃ b, exec (.powerOn straps failed) s = .next ⟨s.pending, b⟩ ∧ b.path.refusedAddr = 0 ∧ b.path.refusedStage = 0)

/-- An increment of the stand clock: in reset nothing changes; else the clock counts on, from 65535 to 0, and a running motion's
count and an awaited reply's count rise by one. With no limit counted out nothing else changes; when one is, the timeouts of what
has run out come about at this increment, the film's before the printer's. -/
def Obligations.ClockIncrementCounts : Prop :=
  ∀ s : State,
    let f := s.part.film
    let l := s.part.link
    let moves := f.st = .leader ∨ f.st = .advancing ∨ f.st = .rewinding
    let counted : Block := { s.part with
      stand := { s.part.stand with clock := s.part.stand.clock + 1 },
      film := { f with elapsed := if moves then min f.limit (f.elapsed + 1) else f.elapsed },
      link := { l with elapsed := if l.st = .awaiting then min l.replyLimit (l.elapsed + 1) else l.elapsed } }
    let out := (moves ∧ f.limit ≤ f.elapsed + 1) ∨ (l.st = .awaiting ∧ l.replyLimit ≤ l.elapsed + 1)
    countTick s.part = counted
    ∧ (s.part.inReset = true → exec .standClockIncrement s = .next s)
    ∧ (s.part.inReset = false → ¬ out → exec .standClockIncrement s = .next ⟨s.pending, counted⟩)
    ∧ (s.part.inReset = false → out → exec .standClockIncrement s
        = .next ⟨s.pending, settle (replyTimeoutOp (rewindTimeoutOp (advanceTimeoutOp counted)))⟩)

/-! ## Order Table -/

/-- A controller read of a slot's word 0: another slot's lock is released first, with its held write-back issued as one write-back
of the words it covers; the slot's own lock is kept, or taken when its code is not IDLE, its slides served is at least 1 and its
mark is clear; the answer shows code, priority, mark, and the indication, set also by the read that takes the lock. Nothing else
changes before the arbiter takes its next access. -/
def Obligations.ControlWordReadLocks : Prop :=
  ∀ (n : Fin 24) (s : State), s.part.reached →
    let p := s.part
    let takes := p.locked n || ((p.shadow n).code ≠ .idle && 1 ≤ (p.shadow n).served.toNat && !p.mark n)
    let control : Word := BitVec.ofNat 16 ((p.shadow n).code.code + (p.shadow n).priority.toNat * 16
      + (if p.mark n then 256 else 0) + (if takes then 512 else 0))
    let lock : Option Lock := if takes then some { slot := n, held := none } else none
    let answers (b : Block) := exec (.orderControlRead n) s
      = .next ⟨s.pending, arbitrate { b with path := { b.path with readData := control } }⟩
    (p.locked n = true → answers p)
    ∧ (p.locked n = false → (∀ l, p.orders.lock = some l → l.held = none) →
        answers { p with orders := { p.orders with lock := lock } })
    ∧ (∀ m h, m ≠ n → p.orders.lock = some { slot := m, held := some h } →
        answers { p with
          orders := { p.orders with
            lock := lock, shadows := p.orders.shadows.set m { p.shadow m with writeBacks := (p.shadow m).writeBacks + 1 } },
          path := { p.path with partList := p.path.partList ++
            [{ owner := .writeBack m h.notice, got := [],
               work := .words ((List.finRange 9).filterMap (fun i => h.words[i].map (fun v =>
                 .write (addrOf p.path.straps (.order m (Fin.ofNat 16 (7 + i.val)))) v))) }] } })

/-- A controller write to a slot's word 0, before the event's end: the code becomes OPEN when the code field is OPEN, else IDLE,
and is reported as refused unless the field is IDLE or OPEN; the priority is taken in every case; a lock of the slot is released
with its held write-back dropped and words 7 and 8 taken back from RAM, another slot's lock stands; the slot is deactivated:
its mark is set and its entry treated as its state asks. -/
def Obligations.ControlWordWriteTaken : Prop :=
  ∀ (n : Fin 24) (v : Word) (s : State), s.part.reached →
    ∃ b, exec (.orderControlWrite n v) s = .next ⟨s.pending, settle b⟩
      ∧ (b.shadow n).code = (if v.toNat % 8 = 1 then .opened else .idle)
      ∧ (b.shadow n).priority = BitVec.ofNat 4 (v.toNat / 16 % 16)
      ∧ (s.part.locked n = true → b.orders.lock = none
          ∧ (b.shadow n).lastServed = s.part.ram (.order n 7) ∧ (b.shadow n).served = s.part.ram (.order n 8))
      ∧ (s.part.locked n = false → b.orders.lock = s.part.orders.lock
          ∧ (b.shadow n).lastServed = (s.part.shadow n).lastServed ∧ (b.shadow n).served = (s.part.shadow n).served)
      ∧ (b.shadow n).writeBacks = (s.part.shadow n).writeBacks
      ∧ (∀ m, m ≠ n → b.shadow m = s.part.shadow m)
      ∧ (v.toNat % 8 ≤ 1 → b.stand = s.part.stand ∧ b.path = s.part.path)
      ∧ (2 ≤ v.toNat % 8 → b.stand = (refuseAt (.order n 0) s.part).stand ∧ b.path = (refuseAt (.order n 0) s.part).path)
      ∧ b.gate.deactivated = s.part.gate.deactivated.set n true
      ∧ (∀ i e, s.part.gate.list.findIdx? (fun e => decide (e.slot = n)) = some i → s.part.gate.list[i]? = some e →
          b.gate.list[i]? = some (match e.st with
            | .candidate | .active => { e with deactivated := true }
            | .planned => { e with deactivated := true, st := .dropped, hold := 0 }
            | _ => e)
          ∧ b.gate.outcome.dropped
              = (if e.st = .planned then min 255 (s.part.gate.outcome.dropped + 1) else s.part.gate.outcome.dropped))
      ∧ b.gate.st = s.part.gate.st ∧ b.mem = s.part.mem ∧ b.expo = s.part.expo ∧ b.film = s.part.film
      ∧ b.pages = s.part.pages ∧ b.charges = s.part.charges ∧ b.nv = s.part.nv ∧ b.link = s.part.link

/-- A controller write to an order's setup or result word: with the memory port free it is stored in the access and the shadow
takes the field in the same event, but for words 7 and 8 while the shadow leads RAM there (log 27), when it stands; with the port busy
it waits on the bus, nothing is stored and no shadow changes. Every other byte and shadow is as before. Words 1 to 8 set the reference, the mask, the account, copies and scheme, the template, the slide
limit, the last served reference and the slides served; the others no field. -/
def Obligations.OrderWordWritesStored : Prop :=
  (∀ (n : Fin 24) (k : Fin 16) (v : Word) (s : State) (c : Instr), s.part.reached → MemoryCanonical s →
     (c = .orderSetupWrite n k v ∨ c = .orderResultWordWrite n k v) → c.wf = true →
     let a := addrOf s.part.path.straps (.order n k)
     ∃ b, exec c s = .next ⟨s.pending, b⟩ ∧ b.path.bus = .memory (.write a v)
       ∧ (∀ m, m ≠ n → b.shadow m = s.part.shadow m)
       ∧ (∀ x, ¬ inWord a x → Memory.get b.mem x = Memory.get s.part.mem x)
       ∧ (s.part.path.port = none → readWord b.mem a = v
           ∧ b.shadow n = (if s.part.leads n k then s.part.shadow n else Shadow.take k v (s.part.shadow n)))
       ∧ (s.part.path.port.isSome = true → b.mem = s.part.mem ∧ b.shadow n = s.part.shadow n
           ∧ b.path.port = s.part.path.port)
       ∧ b.gate = s.part.gate ∧ b.film = s.part.film ∧ b.pages = s.part.pages ∧ b.link = s.part.link
       ∧ b.expo = s.part.expo ∧ b.orders.lock = s.part.orders.lock)
  ∧ (∀ (v : Word) (sh : Shadow),
       Shadow.take 1 v sh = { sh with ref := v } ∧ Shadow.take 2 v sh = { sh with mask := v }
       ∧ Shadow.take 3 v sh = { sh with account := v }
       ∧ (Shadow.take 4 v sh).copies.toNat = v.toNat % 256 ∧ (Shadow.take 4 v sh).scheme.toNat = v.toNat / 256 % 8
       ∧ Shadow.take 4 v sh = { sh with copies := (Shadow.take 4 v sh).copies, scheme := (Shadow.take 4 v sh).scheme }
       ∧ Shadow.take 5 v sh = { sh with template := v }
       ∧ (Shadow.take 6 v sh).limit.toNat = v.toNat % 256 ∧ Shadow.take 6 v sh = { sh with limit := (Shadow.take 6 v sh).limit }
       ∧ Shadow.take 7 v sh = { sh with lastServed := v } ∧ Shadow.take 8 v sh = { sh with served := v }
       ∧ (∀ k : Fin 16, k.val = 0 ∨ 9 ≤ k.val → Shadow.take k v sh = sh))

/-- A write-back is formed: for a slot that is not locked its covered words join the part list behind every access listed, in
ascending word order, and the mark is set; for the locked slot nothing is issued and it becomes the held write-back or is merged
into it, the new words over the held ones, the notice if either calls for one. A halt or skip write-back takes its base from held
word 15; else its base read is issued, counting for a slot that is not locked, or deferred behind one outstanding for the slot
(log 16). A skip covers words 14 and 15 and keeps the code; a halt covers 13 too and makes the slot HALTED. -/
def Obligations.WriteBackFormed : Prop :=
  (∀ (n : Fin 24) (ws : ResultWords) (notice : Bool) (b : Block),
    (b.locked n = false →
      (formWriteBack n ws notice b).orders.lock = b.orders.lock
        ∧ ((formWriteBack n ws notice b).shadow n).writeBacks = (b.shadow n).writeBacks + 1
        ∧ (formWriteBack n ws notice b).mark n = true
        ∧ (formWriteBack n ws notice b).path.partList = b.path.partList ++
            [{ owner := .writeBack n notice, got := [],
               work := .words ((List.finRange 9).filterMap (fun i => ws[i].map (fun v =>
                 .write (addrOf b.path.straps (.order n (Fin.ofNat 16 (7 + i.val)))) v))) }])
    ∧ (∀ l, b.orders.lock = some l → l.slot = n →
        ∃ h, (formWriteBack n ws notice b).orders.lock = some { slot := n, held := some h }
          ∧ (formWriteBack n ws notice b).path = b.path ∧ (formWriteBack n ws notice b).orders.shadows = b.orders.shadows
          ∧ (l.held = none → h.words = ws ∧ h.notice = notice)
          ∧ (∀ old, l.held = some old → h.notice = (old.notice || notice)
              ∧ ∀ i : Fin 9, h.words[i] = (if ws[i].isSome then ws[i] else old.words[i]))))
  ∧ (∀ (n : Fin 24) (reason : Reason) (stamp : Option Word) (b : Block),
    let covered (base : Word) : ResultWords := #v[none, none, none, none, none, none, stamp, some (BitVec.ofNat 16 reason.code),
      some (BitVec.ofNat 16 (min 65535 (base.toNat + 1)))]
    let heldBase (w : Word) := ∃ l h, b.orders.lock = some l ∧ l.slot = n ∧ l.held = some h ∧ h.words[8] = some w
    let read : BaseRead := { slot := n, reason := reason, stamp := stamp, counted := !b.locked n }
    let outstanding := (∃ v r, b.path.port = some v ∧ v.owner = .skipBase r ∧ r.slot = n)
      ∨ ∃ w ∈ b.path.partList, ∃ r, w.owner = .skipBase r ∧ r.slot = n
    (∀ w, heldBase w → formPass n reason stamp b = formWriteBack n (covered w) stamp.isSome b)
    ∧ ((∀ w, ¬ heldBase w) → outstanding → formPass n reason stamp b =
        { b with orders := { b.orders with deferred := b.orders.deferred ++ [.base n reason stamp] } })
    ∧ ((∀ w, ¬ heldBase w) → ¬ outstanding → formPass n reason stamp b = { b with
        orders := (if b.locked n then b.orders else { b.orders with
          shadows := b.orders.shadows.set n { b.shadow n with writeBacks := (b.shadow n).writeBacks + 1 } }),
        path := { b.path with partList := b.path.partList ++
          [{ owner := .skipBase read, work := .words [.read (addrOf b.path.straps (.order n 15))], got := [] }] } })
    ∧ skipOrder n reason b = formPass n reason none b
    ∧ haltOrder n b = formPass n .badSetup (some b.stand.clock)
        { b with orders := { b.orders with shadows := b.orders.shadows.set n { b.shadow n with code := .halted } } })

/-- The completions of the Order Table's accesses. The last word write of a write-back: one write-back fewer is outstanding for
its slot, and ORDER is raised for a service or halt one and not for a skip. The base read of a halt or skip: the write-back covers
words 14 and 15, and 13 for a halt, with the reason and the base plus one, saturating; for a slot that counted as issued its writes
join the part list, else it is held or issued as the lock now stands. Then what waited behind that base read is taken up in the
order it came: a halt or skip write-back is formed, a result copy is loaded. -/
def Obligations.WriteBackAccessesComplete : Prop :=
  (∀ (n : Fin 24) (notice : Bool) (v : Service) (s : State),
     s.part.path.port = some v → v.last = true → v.owner = .writeBack n notice →
     exec .writeBackComplete s = .next ⟨s.pending, settle { s.part with
       path := { s.part.path with port := none },
       orders := { s.part.orders with
         shadows := s.part.orders.shadows.set n
           { s.part.shadow n with writeBacks := (s.part.shadow n).writeBacks - 1 } },
       stand := { s.part.stand with flags := if notice then s.part.stand.flags ||| 0x02 else s.part.stand.flags } }⟩)
  ∧ (∀ (r : BaseRead) (base : Word) (v : Service) (s : State),
       s.part.path.port = some v → v.last = true → v.owner = .skipBase r → v.got = [base] →
       let ws : ResultWords := #v[none, none, none, none, none, none, r.stamp, some (BitVec.ofNat 16 r.reason.code),
         some (BitVec.ofNat 16 (min 65535 (base.toNat + 1)))]
       let b := { s.part with path := { s.part.path with port := none } }
       let c := if r.counted then putWriteBack r.slot ws r.stamp.isSome b else formWriteBack r.slot ws r.stamp.isSome b
       let mine (d : Deferred) : Bool := match d with | .base n _ _ => n = r.slot | .load n => n = r.slot
       let taken (b : Block) (d : Deferred) : Block := match d with
         | .base n reason stamp => formPass n reason stamp b
         | .load n => loadResult n b
       ((∀ d ∈ s.part.orders.deferred, mine d = false) → exec .skipBaseReadComplete s = .next ⟨s.pending, settle c⟩)
       ∧ exec .skipBaseReadComplete s = .next ⟨s.pending, settle ((s.part.orders.deferred.filter mine).foldl taken
           { c with orders := { c.orders with deferred := s.part.orders.deferred.filter (fun d => !mine d) } })⟩)

/-! ## Gate Engine and Exposure Unit -/

/-- The end of a cycle: the gate is DONE with its outcome, no mark, no visit and no active order stand, GATE is raised; a soft
reset under way completes in the same event, else a stand in HOLDING is HELD and STAND is raised. A soft reset completes with the
gate EMPTY, the lock released and its held write-back issued, every flag cleared and then STAND set, the stand HELD, the mark
clear. -/
def Obligations.CycleEnds : Prop :=
  (∀ (oc : OutcomeCode) (b : Block),
     let c : Block := { b with
       gate := { b.gate with
         st := .done, outcome := { b.gate.outcome with code := oc }, withdrawPending := false, resetPending := false,
         visiting := none, active := none, result := none },
       stand := { b.stand with flags := b.stand.flags ||| 0x01 } }
     (b.stand.softReset = true → endCycle oc b = completeSoftReset c)
     ∧ (b.stand.softReset = false → b.stand.st = .holding → endCycle oc b =
         { c with stand := { c.stand with st := .held, flags := c.stand.flags ||| 0x80 } })
     ∧ (b.stand.softReset = false → b.stand.st ≠ .holding → endCycle oc b = c))
  ∧ (∀ b : Block, completeSoftReset b =
       { releaseLock b with
         gate := { b.gate with st := .empty, resetPending := false },
         stand := { b.stand with flags := 0x80, softReset := false, st := .held } })

/-- SOFT-RESET: no effect with the mark set; otherwise the mark is set, a RUNNING stand goes to HOLDING, the refused address is
0, the printer link is put right, and the gate is told: with no cycle in progress the soft reset completes at once, a withdraw's
ending stands, else the reset-pending mark is set and the cycle ends at once when nothing of it is under way. -/
def Obligations.SoftResetTaken : Prop :=
  ∀ s : State, s.part.reached →
    (s.part.stand.softReset = true → exec .softReset s = .next ⟨s.pending, settle s.part⟩)
    ∧ (s.part.stand.softReset = false →
        let b := linkReset { s.part with
          stand := { s.part.stand with
            softReset := true, st := if s.part.stand.st = .running then .holding else s.part.stand.st },
          path := { s.part.path with refusedAddr := 0, refusedStage := 0 } }
        (s.part.gate.inCycle = false → exec .softReset s = .next ⟨s.pending, settle (completeSoftReset b)⟩)
        ∧ (s.part.gate.inCycle = true → s.part.gate.withdrawPending = true →
            exec .softReset s = .next ⟨s.pending, settle b⟩)
        ∧ (s.part.gate.inCycle = true → s.part.gate.withdrawPending = false →
            exec .softReset s = .next ⟨s.pending, settle (endIfIdle (b.setGate { b.gate with resetPending := true }))⟩))

/-- A read of the stand clock answers the count and releases the lock: no lock is left, a held write-back is issued as one
write-back of the words it covers, and no other block changes before the event's end. -/
def Obligations.ClockReadReleasesLock : Prop :=
  ∀ s : State, s.part.reached →
    let b : Block := { s.part with path := { s.part.path with readData := s.part.stand.clock } }
    (s.part.orders.lock = none → exec .standClockRead s = .next ⟨s.pending, settle b⟩)
    ∧ (∀ n, s.part.orders.lock = some { slot := n, held := none } →
        exec .standClockRead s = .next ⟨s.pending, settle { b with orders := { b.orders with lock := none } }⟩)
    ∧ (∀ n h, s.part.orders.lock = some { slot := n, held := some h } →
        exec .standClockRead s = .next ⟨s.pending,
          settle (issueWriteBack n h.words h.notice { b with orders := { b.orders with lock := none } })⟩)

/-- ARRIVE with the gate EMPTY or DONE and the stand RUNNING starts a cycle: METERING with the lamp at METER and a conversion
begun when the film is READY or END, else the cycle ends NOT-READY. In any other gate or stand state it is refused. -/
def Obligations.ArriveStartsCycle : Prop :=
  ∀ s : State, s.part.reached →
    let g : Gate := { s.part.gate with
      ref := s.part.gate.staged, outcome := { OutcomeRecord.start with ref := s.part.gate.staged }, list := [],
      deactivated := Vector.replicate 24 false, withdrawPending := false, visiting := none, active := none, result := none }
    let accepted := (s.part.gate.st = .empty ∨ s.part.gate.st = .done) ∧ s.part.stand.st = .running
    (accepted → (s.part.film.st = .ready ∨ s.part.film.st = .ended) →
      exec .arrive s = .next ⟨s.pending, settle { s.part with
        gate := { g with st := .metering },
        expo := { s.part.expo with reading := 0, density := 0, lamp := .meter, converting := true } }⟩)
    ∧ (accepted → ¬ (s.part.film.st = .ready ∨ s.part.film.st = .ended) →
      exec .arrive s = .next ⟨s.pending, settle (endCycle .notReady { s.part with
        gate := g, expo := { s.part.expo with reading := 0, density := 0 } })⟩)
    ∧ (¬ accepted → exec .arrive s = .next ⟨s.pending, settle (refuse (windowBase s.part.path.straps + 0x10) s.part)⟩)

/-- WITHDRAW: DONE goes to EMPTY; EMPTY, and a cycle with a mark set, are left alone; a cycle with neither mark gets the mark and
goes on while a conversion, an account read or work of the ACTIVE entry is under way, and is otherwise ended ABORTED at once. -/
def Obligations.WithdrawTaken : Prop :=
  ∀ s : State, s.part.reached →
    let b : Block := { s.part with gate := { s.part.gate with withdrawPending := true } }
    let marked := s.part.gate.withdrawPending = true ∨ s.part.gate.resetPending = true
    let waits := s.part.gate.st = .metering ∨ (s.part.gate.st = .planning ∧ s.part.gate.visiting.isSome = true)
      ∨ (s.part.gate.st = .serving ∧ ∃ a, s.part.gate.active = some a ∧ a.phase ≠ .waiting)
    (s.part.gate.st = .empty → exec .withdraw s = .next ⟨s.pending, settle s.part⟩)
    ∧ (s.part.gate.st = .done → exec .withdraw s = .next ⟨s.pending, settle { s.part with
        gate := { s.part.gate with st := .empty } }⟩)
    ∧ (s.part.gate.inCycle = true → marked → exec .withdraw s = .next ⟨s.pending, settle s.part⟩)
    ∧ (s.part.gate.inCycle = true → ¬ marked → waits → exec .withdraw s = .next ⟨s.pending, settle b⟩)
    ∧ (s.part.gate.inCycle = true → ¬ marked → ¬ waits →
        exec .withdraw s = .next ⟨s.pending, settle (endCancelled .aborted .aborted b)⟩)

/-- The ending of a withdraw, a jam or a soft reset: every CANDIDATE, PLANNED and ACTIVE entry becomes CANCELLED with the reason
and its hold 0, the others stay; the ACTIVE entry's order is HALTED with the completed result copy in its shadow and as its service
write-back of words 7-15, unless the entry is deactivated; then the cycle ends with the outcome. -/
def Obligations.CancelledEndingHaltsActiveOrder : Prop :=
  ∀ (reason : Reason) (oc : OutcomeCode) (b : Block), reason ≠ .none →
    ∃ c, endCancelled reason oc b = endCycle oc c
      ∧ c.gate = { b.gate with list := b.gate.list.map (fun e =>
          if e.st = .candidate ∨ e.st = .planned ∨ e.st = .active then
            { e with st := .cancelled, reason := reason, hold := 0 }
          else e) }
      ∧ (∀ a e r, b.gate.active = some a → b.gate.list[a.index]? = some e → e.deactivated = false → b.gate.result = some r →
          let r' := completeResult r none e.exposed a.charged a.first b.stand.clock reason
          let taken := formWriteBack a.slot (r'.map some) true { b with orders := { b.orders with
            shadows := b.orders.shadows.set a.slot
              { b.shadow a.slot with code := .halted, lastServed := r'[0], served := r'[1] } } }
          c.orders = taken.orders ∧ c.path = taken.path ∧ (c.shadow a.slot).code = .halted)
      ∧ (∀ a e, b.gate.active = some a → b.gate.list[a.index]? = some e → e.deactivated = true →
          c.orders = b.orders ∧ c.path = b.path)
      ∧ (b.gate.active = none → c.orders = b.orders ∧ c.path = b.path)
      ∧ c.film = b.film ∧ c.expo = b.expo ∧ c.stand = b.stand ∧ c.charges = b.charges ∧ c.pages = b.pages ∧ c.nv = b.nv
      ∧ c.mem = b.mem ∧ c.link = b.link

/-- The end of a SERVED entry, before the next move-out: the entry is SERVED with its hold 0 and counted; unless it is
deactivated its order takes the completed result copy and its new code, and a service write-back of words 7-15 is formed. The
completed copy, word by word: words 7 and 8 advance only for a SERVED entry, frames exposed saturates, the amount is added modulo
2^32, the first frame is set only once, the time stamp and the reason are written, the skip count stands; the new code is FILLED at
a nonzero limit reached, else OPEN, and HALTED for any other ending. -/
def Obligations.EntryEndsServed : Prop :=
  (∀ (a : ActiveOrder) (e : Entry) (b : Block),
     ∃ c, endServed a e b = moveOut c
       ∧ c.gate = { b.gate with
           list := b.gate.list.modify a.index (fun e => { e with st := .served, hold := 0 }),
           outcome := { b.gate.outcome with served := min 255 (b.gate.outcome.served + 1) }, active := none, result := none }
       ∧ (e.deactivated = true → c.orders = b.orders ∧ c.path = b.path)
       ∧ (∀ r, e.deactivated = false → b.gate.result = some r →
           let r' := completeResult r (some b.gate.ref) e.exposed a.charged a.first b.stand.clock .none
           let taken := formWriteBack a.slot (r'.map some) true { b with orders := { b.orders with
             shadows := b.orders.shadows.set a.slot
               { b.shadow a.slot with code := codeAfter true a.limit r'[1], lastServed := b.gate.ref, served := r'[1] } } }
           c.orders = taken.orders ∧ c.path = taken.path ∧ (c.shadow a.slot).code = codeAfter true a.limit r'[1]
             ∧ (c.shadow a.slot).lastServed = b.gate.ref ∧ (c.shadow a.slot).served = r'[1])
       ∧ c.film = b.film ∧ c.expo = b.expo ∧ c.stand = b.stand ∧ c.charges = b.charges ∧ c.pages = b.pages)
  ∧ (∀ (r : Vector Word 9) (ref : Option Word) (exposed charged : Nat) (first : Option (Fin 4 × Fin 72)) (clock : Word)
       (reason : Reason),
       let r' := completeResult r ref exposed charged first clock reason
       (∀ w, ref = some w → r'[0] = w ∧ r'[1].toNat = min 65535 (r[1].toNat + 1))
       ∧ (ref = none → r'[0] = r[0] ∧ r'[1] = r[1])
       ∧ r'[2].toNat = min 65535 (r[2].toNat + exposed)
       ∧ (r'[4] ++ r'[3] : Amount).toNat = ((r[4] ++ r[3] : Amount).toNat + charged) % 2 ^ 32
       ∧ (∀ p f, first = some (p, f) → r[5].toNat % 256 = 0 → r'[5].toNat = p.val * 256 + (f.val + 1))
       ∧ (first = none ∨ r[5].toNat % 256 ≠ 0 → r'[5] = r[5])
       ∧ r'[6] = clock ∧ r'[7].toNat = reason.code ∧ r'[8] = r[8]
       ∧ (∀ (limit : BitVec 8) (count : Word),
           codeAfter false limit count = .halted
           ∧ codeAfter true limit count = (if limit ≠ 0 ∧ limit.toNat ≤ count.toNat then .filled else .opened)))

/-- A meter conversion completes: with none in progress it changes nothing; otherwise the lamp is OFF and nothing converts, and
under a pending mark the reading is set aside and the cycle ends as the mark asks; a reading below the dark threshold ends the
cycle DARK, one above the bright threshold BRIGHT, and one between, both included, gives the density index and the scan. -/
def Obligations.ConversionJudged : Prop :=
  ∀ (r : BitVec 10) (s : State),
    let b : Block := { s.part with expo := { s.part.expo with lamp := .off, converting := false } }
    let read : Block := { b with
      expo := { b.expo with reading := r }, gate := { b.gate with outcome := { b.gate.outcome with reading := r } } }
    let dark := s.part.stand.latched[2].toNat
    let bright := s.part.stand.latched[3].toNat
    let pending := s.part.gate.withdrawPending = true ∨ s.part.gate.resetPending = true
    let d := (1023 - r.toNat) / 26
    (s.part.expo.converting = false → exec (.conversionCompletion r) s = .next ⟨s.pending, settle s.part⟩)
    ∧ (s.part.expo.converting = true → s.part.gate.withdrawPending = true →
        exec (.conversionCompletion r) s = .next ⟨s.pending, settle (endCancelled .aborted .aborted b)⟩)
    ∧ (s.part.expo.converting = true → s.part.gate.withdrawPending = false → s.part.gate.resetPending = true →
        exec (.conversionCompletion r) s = .next ⟨s.pending, settle (endCancelled .reset .reset b)⟩)
    ∧ (s.part.expo.converting = true → ¬ pending → r.toNat < dark →
        exec (.conversionCompletion r) s = .next ⟨s.pending, settle (endCycle .dark read)⟩)
    ∧ (s.part.expo.converting = true → ¬ pending → dark ≤ r.toNat → bright < r.toNat →
        exec (.conversionCompletion r) s = .next ⟨s.pending, settle (endCycle .bright read)⟩)
    ∧ (s.part.expo.converting = true → ¬ pending → dark ≤ r.toNat → r.toNat ≤ bright →
        d ≤ 39 ∧ exec (.conversionCompletion r) s = .next ⟨s.pending, settle (scan { read with
          expo := { read.expo with density := d },
          gate := { read.gate with outcome := { read.gate.outcome with density := d } } })⟩)

/-- The matching scan: the matches are the OPEN slots whose masked reference agrees, whose last served reference differs and whose
deactivation mark is clear, each once, in ascending order of priority and then slot in PRIORITY mode, of slot in SLOT mode; with
none the cycle ends NO-MATCH, else the first eight become the gate list as CANDIDATE entries, each of the rest is counted and its
order passed over for LIST-FULL with a skip write-back, its code kept, and the visits begin. -/
def Obligations.ScanListsMatchesInOrder : Prop :=
  ∀ b : Block,
    (∀ n, n ∈ orderedMatches b ↔
        (b.shadow n).code = .opened ∧ (∀ i, i < 16 → (b.shadow n).mask.getLsbD i = true →
          b.gate.ref.getLsbD i = (b.shadow n).ref.getLsbD i)
        ∧ (b.shadow n).lastServed ≠ b.gate.ref ∧ b.gate.deactivated[n] = false)
    ∧ (orderedMatches b).Pairwise (fun m n =>
        if b.stand.latched[0] = 0 then
          (b.shadow m).priority.toNat < (b.shadow n).priority.toNat
            ∨ ((b.shadow m).priority = (b.shadow n).priority ∧ m.val < n.val)
        else m.val < n.val)
    ∧ (orderedMatches b = [] → scan b = endCycle .noMatch b)
    ∧ (orderedMatches b ≠ [] → ∃ c, scan b = visitFrom 0 c ∧ c.gate.st = .planning
        ∧ c.gate.list = ((orderedMatches b).take 8).map Entry.candidate
        ∧ c.gate.outcome.listFull = (if (orderedMatches b).length ≤ 8 then b.gate.outcome.listFull
            else min 255 (b.gate.outcome.listFull + ((orderedMatches b).length - 8)))
        ∧ (∀ n, (c.shadow n).code = (b.shadow n).code) ∧ c.film = b.film ∧ c.expo = b.expo ∧ c.charges = b.charges
        ∧ c.pages = b.pages ∧ c.mem = b.mem ∧ c.stand = b.stand ∧ c.link = b.link ∧ c.nv = b.nv)
    ∧ (orderedMatches b ≠ [] →
        let full (c : Block) (n : Fin 24) : Block := skipOrder n .listFull { c with gate := { c.gate with
          outcome := { c.gate.outcome with listFull := min 255 (c.gate.outcome.listFull + 1) } } }
        let c := ((orderedMatches b).drop 8).foldl full
          { b with gate := { b.gate with list := ((orderedMatches b).take 8).map Entry.candidate } }
        scan b = visitFrom 0 { c with gate := { c.gate with st := .planning } })
    ∧ (∀ n, Entry.candidate n =
        { slot := n, st := .candidate, reason := .none, deactivated := false, copies := 0, steps := 0, offsets := [],
          account := 0, template := none, rate := 0, planned := 0, exposed := 0, skipped := 0, copy := 1, step := 1, hold := 0 })

/-- A visit to an entry: one with its deactivated mark is DROPPED and counted; one whose setup is invalid is SKIPPED for BAD-SETUP
with its order HALTED by a halt write-back; one for which the film is not READY, or the roll has not room beside the PLANNED
entries, is SKIPPED for ROLL-SHORT, counted, with a skip write-back, its order's code kept; any other waits for its account read,
with the terms of its order copied. A setup is valid exactly with copies in 1-9, a scheme count in 1-7 with its offsets in -9..+9,
an account up to 127 and a template up to 15 or NONE. Visits go in list order, each ended before the next: they stop at the entry that
waits for its account read, and end in move-out after the last. -/
def Obligations.VisitDecidesEntry : Prop :=
  (∀ (i : Nat) (e : Entry) (b : Block), b.gate.list[i]? = some e →
     let sh := b.shadow e.slot
     let m := schemeOf b sh
     let c := (visit i e b).1
     let frames := sh.copies.toNat * m[0].toNat
     let room := b.film.st = .ready
       ∧ b.film.used + ((b.gate.list.filter (fun e => decide (e.st = .planned))).map (·.planned)).sum + frames ≤ b.film.length
     (e.deactivated = true → (visit i e b).2 = false ∧ c.gate.list = b.gate.list.set i { e with st := .dropped, hold := 0 }
         ∧ c.gate.outcome = { b.gate.outcome with dropped := min 255 (b.gate.outcome.dropped + 1) }
         ∧ c.orders = b.orders ∧ c.path = b.path ∧ c.nv = b.nv)
     ∧ (e.deactivated = false → setupValid sh m = false → (visit i e b).2 = false
         ∧ c.gate.list = b.gate.list.set i { e with st := .skipped, reason := .badSetup } ∧ c.gate.outcome = b.gate.outcome
         ∧ (c.shadow e.slot).code = .halted ∧ c.nv = b.nv
         ∧ c = haltOrder e.slot { b with gate := { b.gate with
             list := b.gate.list.set i { e with st := .skipped, reason := .badSetup } } })
     ∧ (e.deactivated = false → setupValid sh m = true → e.st ≠ .planned → ¬ room → (visit i e b).2 = false
         ∧ c.gate.list = b.gate.list.set i { e.plan sh m with st := .skipped, reason := .rollShort }
         ∧ c.gate.outcome = { b.gate.outcome with rollShort := min 255 (b.gate.outcome.rollShort + 1) }
         ∧ (c.shadow e.slot).code = sh.code ∧ c.nv = b.nv
         ∧ c = skipOrder e.slot .rollShort { b with gate := { b.gate with
             list := b.gate.list.set i { e.plan sh m with st := .skipped, reason := .rollShort },
             outcome := { b.gate.outcome with rollShort := min 255 (b.gate.outcome.rollShort + 1) } } })
     ∧ (e.deactivated = false → setupValid sh m = true → e.st ≠ .planned → room → (visit i e b).2 = true
         ∧ c = { b with
             gate := { b.gate with list := b.gate.list.set i (e.plan sh m), visiting := some i },
             nv := { b.nv with planClaim := some (e.plan sh m).account } })
     ∧ c.film = b.film ∧ c.expo = b.expo ∧ c.charges = b.charges ∧ c.pages = b.pages ∧ c.stand = b.stand)
  ∧ (∀ (sh : Shadow) (m : Vector Word 8) (e : Entry),
       (setupValid sh m = true ↔
         (1 ≤ sh.copies.toNat ∧ sh.copies.toNat ≤ 9) ∧ (1 ≤ m[0].toNat ∧ m[0].toNat ≤ 7)
           ∧ (∀ k : Fin 8, 1 ≤ k.val → k.val ≤ m[0].toNat → -9 ≤ m[k].toInt ∧ m[k].toInt ≤ 9)
           ∧ sh.account.toNat ≤ 127 ∧ (sh.template.toNat ≤ 15 ∨ sh.template = 0xFFFF))
       ∧ (setupValid sh m = true → ∃ acc : Fin 128, acc.val = sh.account.toNat
           ∧ e.plan sh m = { e with
               copies := sh.copies.toNat, steps := m[0].toNat, account := acc, planned := sh.copies.toNat * m[0].toNat,
               offsets := (m.toList.tail.take m[0].toNat).map (·.toInt),
               template := if sh.template = 0xFFFF then none else some (Fin.ofNat 16 sh.template.toNat) }))
  ∧ (∀ (b : Block) (sh : Shadow), schemeOf b sh = b.expo.schemes[sh.scheme.toNat])
  ∧ (∀ (i : Nat) (b : Block),
       (b.gate.list.length ≤ i → visitFrom i b = moveOut b)
       ∧ (∀ e, b.gate.list[i]? = some e →
           ((visit i e b).2 = true → visitFrom i b = (visit i e b).1)
           ∧ ((visit i e b).2 = false → visitFrom i b = visitFrom (i + 1) (visit i e b).1)))

/-- The planning read of the entry visited completes: deactivated, it is DROPPED with no hold; under a pending mark the cycle ends
as the mark asks; else the record judges it, in this order: unsound ACCOUNT-FAULT, STOPPED ACCOUNT-STOPPED, available amount below
the floor FUNDS-SHORT, each SKIPPED, counted, with a skip write-back; otherwise PLANNED with its rate class and its hold; then the
next entry is visited. The available amount is the balance read with every queued delta of the account, less the holds of its PLANNED
entries and the entry's own. The port is free: a posting that waits, with no controller access before it, is taken before the next
claim or behind it (a free choice, log 40), and the judgement is the same. A hold of 0 is judged by the same table (log 41). -/
def Obligations.PlanningReadJudges : Prop :=
  ∀ (i : Nat) (e : Entry) (got : List Word) (v : Service) (s : State),
    s.part.path.port = some v → v.last = true → v.owner = .planningRead → v.got = got →
    s.part.gate.visiting = some i → s.part.gate.list[i]? = some e →
    let idle : Block := { s.part with
      path := { s.part.path with port := none },
      nv := { s.part.nv with phase := .idle, serving := none, pair := false, latch := [] },
      gate := { s.part.gate with visiting := none } }
    let drawn : Block := { idle with freeCount := s.part.freeCount + 1 }
    let contends := s.part.charges.queue ≠ [] ∧ s.part.charges.applying = false ∧ s.part.nv.fill ≠ .filling
      ∧ ∀ x, s.part.path.bus ≠ .nvWait x
    let st : Settings := s.part.stand.latched
    let amountAt (k : Nat) : Int := (got.getD (k + 1) 0 ++ got.getD k 0 : Amount).toInt
    let rate : Fin 4 := Fin.ofNat 4 (got.headD 0).toNat
    let hold := e.copies * (st.primary rate + (e.steps - 1) * st.bracket rate)
    let free := amountAt 1 + (((s.part.charges.queue.filter (fun p => decide (p.account = e.account))).map (·.delta)).sum)
      - ((((s.part.gate.list.filter (fun x => decide (x.st = .planned) && decide (x.account = e.account))).map (·.hold)).sum : Nat) : Int)
      - (hold : Int)
    let pending := s.part.gate.withdrawPending = true ∨ s.part.gate.resetPending = true
    let judged := e.deactivated = false ∧ ¬ pending
    let stopped := (got.getD 0 0).toNat / 256 = 2
    let answers (c : Block) := exec .planningReadComplete s = .next ⟨s.pending, settle c⟩
    ∃ b : Block, (¬ contends → b = idle) ∧ (contends → b = drawn ∨ b = nvTake drawn)
    ∧ (let dropped : Block := { b with gate := { b.gate with
        list := b.gate.list.modify i (fun x => { x with st := .dropped, hold := 0 }),
        outcome := { b.gate.outcome with dropped := min 255 (b.gate.outcome.dropped + 1) } } }
      let skip (reason : Reason) (o : OutcomeRecord) := skipOrder e.slot reason { b with
        gate := { b.gate with list := b.gate.list.modify i (fun x => { x with st := .skipped, reason := reason }), outcome := o } }
      (e.deactivated = true → ¬ pending → answers (visitFrom (i + 1) dropped))
      ∧ (e.deactivated = true → pending → answers (endPending dropped))
      ∧ (e.deactivated = false → pending → answers (endPending b))
      ∧ (judged → recordSound got = false →
          answers (visitFrom (i + 1) (skip .accountFault { b.gate.outcome with
            accountFault := min 255 (b.gate.outcome.accountFault + 1) })))
      ∧ (judged → recordSound got = true → stopped →
          answers (visitFrom (i + 1) (skip .accountStopped { b.gate.outcome with
            accountStopped := min 255 (b.gate.outcome.accountStopped + 1) })))
      ∧ (judged → recordSound got = true → ¬ stopped → free < amountAt 3 →
          answers (visitFrom (i + 1) (skip .fundsShort { b.gate.outcome with
            fundsShort := min 255 (b.gate.outcome.fundsShort + 1) })))
      ∧ (judged → recordSound got = true → ¬ stopped → amountAt 3 ≤ free →
          answers (visitFrom (i + 1) { b with gate := { b.gate with
            list := b.gate.list.modify i (fun x => { x with st := .planned, rate := rate, hold := hold }) } })))

/-- Move-out takes the first PLANNED entry in list order: it becomes ACTIVE, its slot SERVING, the active order copy takes its
terms and the slide limit as it stands, and its result copy is loaded; with none left the cycle ends SERVED when an entry of the
list is SERVED, else NONE-SERVED. -/
def Obligations.MoveOutTakesFirstPlanned : Prop :=
  ∀ b : Block,
    ((∀ e ∈ b.gate.list, e.st ≠ .planned) →
      moveOut b = endCycle (if ∃ e ∈ b.gate.list, e.st = .served then .served else .noneServed) b)
    ∧ (∀ i e, b.gate.list[i]? = some e → e.st = .planned → (∀ j f, j < i → b.gate.list[j]? = some f → f.st ≠ .planned) →
      ∃ c, moveOut b = loadResult e.slot c
        ∧ c.gate = { b.gate with
            st := .serving, list := b.gate.list.set i { e with st := .active }, result := none,
            active := some ⟨i, e.slot, e.account, e.rate, e.copies, e.template, e.steps, e.offsets, (b.shadow e.slot).limit,
              .loading, none, 0⟩ }
        ∧ (c.shadow e.slot).code = .serving ∧ (∀ n, n ≠ e.slot → c.shadow n = b.shadow n)
        ∧ c.orders.lock = b.orders.lock ∧ c.path = b.path ∧ c.expo = b.expo ∧ c.film = b.film ∧ c.stand = b.stand)

/-- The load of a result copy: behind an outstanding base read of the slot it is deferred (R10); else the words that the slot's held
write-back covers come from it and the rest are read, behind every access listed; with all nine held the copy is loaded at once
(log 17). When its reads complete the copy is the held words with the words read in their places, in ascending order, and the first
step begins, or a pending ending comes about. -/
def Obligations.ResultCopyLoads : Prop :=
  (∀ (n : Fin 24) (b : Block),
    let outstanding := (∃ v r, b.path.port = some v ∧ v.owner = .skipBase r ∧ r.slot = n)
      ∨ ∃ w ∈ b.path.partList, ∃ r, w.owner = .skipBase r ∧ r.slot = n
    let known := heldWords b n
    (∀ l h, b.orders.lock = some l → l.slot = n → l.held = some h → known = h.words)
    ∧ ((∀ l h, b.orders.lock = some l → l.slot = n → l.held ≠ some h) → ∀ i : Fin 9, known[i] = none)
    ∧ (outstanding → loadResult n b =
        { b with orders := { b.orders with deferred := b.orders.deferred ++ [.load n] } })
    ∧ (¬ outstanding → (∃ i : Fin 9, known[i] = none) →
      loadResult n b = { b with path := { b.path with partList := b.path.partList ++
        [{ owner := .resultLoad known, got := [],
           work := .words ((List.finRange 9).filterMap (fun i => cond known[i].isSome none
             (some (.read (addrOf b.path.straps (.order n (Fin.ofNat 16 (7 + i.val)))))))) }] } })
    ∧ (∀ r : Vector Word 9, ¬ outstanding → (∀ i : Fin 9, known[i] = some r[i]) →
      let c : Block := { b with gate := { b.gate with result := some r } }
      let pending := b.gate.withdrawPending = true ∨ b.gate.resetPending = true
      (pending → loadResult n b = endPending c) ∧ (¬ pending → loadResult n b = beginStep c)))
  ∧ (∀ (known : ResultWords) (got : List Word) (v : Service) (s : State),
    s.part.path.port = some v → v.last = true → v.owner = .resultLoad known → v.got = got →
    let b : Block := { s.part with
      path := { s.part.path with port := none }, gate := { s.part.gate with result := some (loadedWords known got) } }
    (s.part.gate.withdrawPending = false → s.part.gate.resetPending = false →
      exec .resultCopyLoaded s = .next ⟨s.pending, settle (beginStep b)⟩)
    ∧ (s.part.gate.withdrawPending = true → exec .resultCopyLoaded s = .next ⟨s.pending, settle (endCancelled .aborted .aborted b)⟩)
    ∧ (s.part.gate.withdrawPending = false → s.part.gate.resetPending = true →
      exec .resultCopyLoaded s = .next ⟨s.pending, settle (endCancelled .reset .reset b)⟩)
    ∧ (∀ i : Fin 9, ∀ w, known[i] = some w → (loadedWords known got)[i] = w)
    ∧ (∀ i : Fin 9, known[i] = none → (loadedWords known got)[i]
        = got.getD (((List.finRange 9).filter (fun j => decide (j < i) && known[j].isNone)).length) 0))

/-- A step begins: its raw value is the latched calibration offset, the density index and the step's offset; the index is that
value clamped to 0-63, the clipped mark says that clamping changed it, and the read of its exposure table entry is issued. When a
step has ended, a pending mark ends the cycle; else the steps go on copy-major, and after the last the entry ends SERVED. -/
def Obligations.StepsRunCopyMajor : Prop :=
  (∀ (a : ActiveOrder) (e : Entry) (b : Block), b.gate.active = some a → b.gate.list[a.index]? = some e →
     let raw : Int := b.stand.latched[1].toInt + (b.expo.density : Int) + a.offsets.getD (e.step - 1) 0
     let index : Nat := (max 0 (min 63 raw)).toNat
     beginStep b = { b with
       expo := { b.expo with index := index, clipped := decide ((index : Int) ≠ raw) },
       gate := { b.gate with active := some { a with phase := .tableRead } },
       path := { b.path with partList := b.path.partList ++
         [{ owner := .tableRead, got := [],
            work := .words [.read (windowBase b.path.straps + (0x0100 + 2 * index))] }] } })
  ∧ (∀ (a : ActiveOrder) (e : Entry) (b : Block), b.gate.active = some a → b.gate.list[a.index]? = some e →
    let pending := b.gate.withdrawPending = true ∨ b.gate.resetPending = true
    let goes (copy step : Nat) : Block := { b with
      gate := { b.gate with list := b.gate.list.modify a.index (fun e => { e with copy := copy, step := step }) } }
    (pending → stepEnded b = endPending b)
    ∧ (¬ pending → e.step < a.steps → stepEnded b = beginStep (goes e.copy (e.step + 1)))
    ∧ (¬ pending → a.steps ≤ e.step → e.copy < a.copies → stepEnded b = beginStep (goes (e.copy + 1) 1))
    ∧ (¬ pending → a.steps ≤ e.step → a.copies ≤ e.copy → stepEnded b = endServed a e b))

/-- The exposure table read of the step in hand completes: under a pending mark the step is set aside and the cycle ends; a 0
skips the step, its price leaving the hold and both counts rising; any other value is the lamp time, and the exposure begins when
the film is READY and the postings and reservations are fewer than eight, and waits otherwise. -/
def Obligations.TableReadSkipsOrExposes : Prop :=
  ∀ (a : ActiveOrder) (e : Entry) (w : Word) (v : Service) (s : State),
    s.part.path.port = some v → v.last = true → v.owner = .tableRead → v.got = [w] →
    s.part.gate.active = some a → s.part.gate.list[a.index]? = some e →
    let b : Block := { s.part with path := { s.part.path with port := none } }
    let st : Settings := s.part.stand.latched
    let price := if e.step = 1 then st.primary a.rate else st.bracket a.rate
    let pending := s.part.gate.withdrawPending = true ∨ s.part.gate.resetPending = true
    let room := s.part.film.st = .ready ∧ s.part.charges.queue.length + s.part.charges.reserved < 8
    (pending → exec .exposureTableReadComplete s = .next ⟨s.pending, settle (endPending b)⟩)
    ∧ (¬ pending → w = 0 → exec .exposureTableReadComplete s = .next ⟨s.pending, settle (stepEnded { b with
        gate := { b.gate with
          list := b.gate.list.modify a.index (fun e => { e with hold := e.hold - price, skipped := e.skipped + 1 }),
          outcome := { b.gate.outcome with uncalibrated := min 255 (b.gate.outcome.uncalibrated + 1) } } })⟩)
    ∧ (¬ pending → w ≠ 0 → room → exec .exposureTableReadComplete s = .next ⟨s.pending, settle { b with
        expo := { b.expo with lampTime := w, stamp := s.part.stand.clock, lamp := .expose },
        charges := { b.charges with reserved := b.charges.reserved + 1 },
        film := { b.film with st := .exposing },
        gate := { b.gate with active := some { a with phase := .exposing } } }⟩)
    ∧ (¬ pending → w ≠ 0 → ¬ room → exec .exposureTableReadComplete s = .next ⟨s.pending, settle { b with
        expo := { b.expo with lampTime := w }, gate := { b.gate with active := some { a with phase := .waiting } } }⟩)

/-- An exposure completes: the lamp is OFF; the frame is recorded on the page at frames used + 1, its record's six words and the
frames used word issued behind every access listed; its CHARGE joins the queue in place of the reservation; the entry's and the
record's frames exposed rise and the hold falls by the price; the frame's template is in use when it has one. The last frame of the
roll brings END and FILM and ends the step; any other begins a frame advance. The words of the record are listed. -/
def Obligations.ExposureCompletes : Prop :=
  (∀ (a : ActiveOrder) (e : Entry) (p : Fin 4) (f : Fin 72) (s : State),
     s.part.gate.active = some a → s.part.gate.list[a.index]? = some e → a.phase = .exposing → s.part.film.page = some p →
     s.part.film.used = f.val →
     let st : Settings := s.part.stand.latched
     let price := if e.step = 1 then st.primary a.rate else st.bracket a.rate
     ∃ b : Block,
       b.charges = { s.part.charges with
         reserved := s.part.charges.reserved - 1,
         queue := s.part.charges.queue ++
           [{ account := a.account, delta := -(price : Int), kind := .charge, page := p, frame := f }] }
       ∧ b.expo = { s.part.expo with lamp := .off }
       ∧ b.film = { s.part.film with used := f.val + 1 }
       ∧ b.pages.pages = s.part.pages.pages.set p { s.part.pages.pages[p] with
           used := f.val + 1,
           frames := s.part.pages.pages[p].frames.set f
             { label := if a.template.isSome then .due else .none, attempts := 0, template := a.template, account := a.account,
               amount := price } }
       ∧ (∀ t : Fin 16, b.pages.useCount[t] = s.part.pages.useCount[t] + (if a.template = some t then 1 else 0))
       ∧ b.path = { s.part.path with partList := s.part.path.partList ++
           [{ owner := .pageWrites, got := [],
              work := .words ((frameWrites s.part a e price p f).map (fun x => .write (addrOf s.part.path.straps x.1) x.2)) }] }
       ∧ b.gate = { s.part.gate with
           list := s.part.gate.list.modify a.index (fun e => { e with exposed := e.exposed + 1, hold := e.hold - price }),
           outcome := { s.part.gate.outcome with exposed := min 255 (s.part.gate.outcome.exposed + 1) },
           active := some { a with first := a.first.or (some (p, f)), charged := a.charged + price } }
       ∧ b.orders = s.part.orders ∧ b.nv = s.part.nv ∧ b.link = s.part.link ∧ b.stand = s.part.stand ∧ b.mem = s.part.mem
       ∧ (f.val + 1 = s.part.film.length → exec .exposureCompletion s = .next ⟨s.pending, settle (stepEnded { b with
           film := { b.film with st := .ended }, stand := { b.stand with flags := b.stand.flags ||| 0x04 } })⟩)
       ∧ (f.val + 1 ≠ s.part.film.length → exec .exposureCompletion s = .next ⟨s.pending, settle { b with
           film := { b.film with
             st := .advancing, pulses := 0, elapsed := 0, pulsesPerFrame := st.pulses, limit := st.advanceLimit },
           gate := { b.gate with active := b.gate.active.map (fun a => { a with phase := .advancing }) } }⟩))
  ∧ (∀ (a : ActiveOrder) (e : Entry) (price : Nat) (p : Fin 4) (f : Fin 72) (b : Block),
       frameWrites b a e price p f =
         [(.frame p f 0, BitVec.ofNat 16 (a.slot.val + e.step * 256 + e.copy * 4096)), (.frame p f 1, b.gate.ref),
           (.frame p f 2, BitVec.ofNat 16 (a.account.val + b.expo.index * 256 + (if b.expo.clipped then 32768 else 0))),
           (.frame p f 3, BitVec.ofNat 16 ((if a.template.isSome then 1 else 0)
             + (match a.template with | none => 31 | some t => t.val) * 256)),
           (.frame p f 4, BitVec.ofNat 16 price), (.frame p f 5, b.expo.stamp), (.header p 3, BitVec.ofNat 16 (f.val + 1))])

/-! ## Film Transport -/

/-- A perforation pulse: with no advance running it changes nothing; else the pulse count rises by one, and at the motion's pulses
per frame the advance completes: a leader advance counts down and the film settles READY or the next begins; a frame advance that
RETRY began settles READY; one of service makes the film READY and ends its step. The advance motor runs in LEADER and ADVANCING,
the rewind motor in REWINDING. -/
def Obligations.PulseAdvancesFilm : Prop :=
  (∀ f : Film, (f.advanceMotor = true ↔ f.st = .leader ∨ f.st = .advancing) ∧ (f.rewindMotor = true ↔ f.st = .rewinding))
  ∧ ∀ s : State,
    let f := s.part.film
    let st : Settings := s.part.stand.latched
    let n := f.pulses + 1
    let advances := f.st = .leader ∨ f.st = .advancing
    let notice : Stand := { s.part.stand with flags := s.part.stand.flags ||| 0x04 }
    let service := ∃ a, s.part.gate.active = some a ∧ a.phase = .advancing
    let answers (b : Block) := exec .perforationPulse s = .next ⟨s.pending, settle b⟩
    (¬ advances → answers s.part)
    ∧ (advances → n ≠ f.pulsesPerFrame → answers { s.part with film := { f with pulses := n } })
    ∧ (f.st = .leader → n = f.pulsesPerFrame → f.leaderLeft ≤ 1 → answers { s.part with
        film := { f with pulses := n, leaderLeft := 0, st := .ready, interrupted := .none, running := false }, stand := notice })
    ∧ (f.st = .leader → n = f.pulsesPerFrame → 2 ≤ f.leaderLeft → answers { s.part with
        film := { f with
          pulses := 0, leaderLeft := f.leaderLeft - 1, elapsed := 0, pulsesPerFrame := st.pulses, limit := st.advanceLimit } })
    ∧ (f.st = .advancing → n = f.pulsesPerFrame → f.interrupted ≠ .none → answers { s.part with
        film := { f with pulses := n, st := .ready, interrupted := .none, running := false }, stand := notice })
    ∧ (f.st = .advancing → n = f.pulsesPerFrame → f.interrupted = .none → service →
        answers (stepEnded { s.part with film := { f with pulses := n, st := .ready } }))
    ∧ (f.st = .advancing → n = f.pulsesPerFrame → f.interrupted = .none → ¬ service →
        answers { s.part with film := { f with pulses := n, st := .ready } })

/-- An advance timeout is the increment of the stand clock at which the limit of a running advance runs out; at any other moment it
changes nothing. Counted, the film is JAMMED with the interrupted motion, the running mark clear and FILM raised; an advance of
service also ends the cycle, JAMMED unless a mark is pending. A reply limit that runs out at the same increment comes after it
(log 10). -/
def Obligations.AdvanceTimeoutJams : Prop :=
  (∀ s : State,
    let f := s.part.film
    let c := countTick s.part
    let advances := f.st = .leader ∨ f.st = .advancing
    let out := f.limit ≤ f.elapsed + 1
    let service := ∃ a, s.part.gate.active = some a ∧ a.phase = .advancing
    let pending := s.part.gate.withdrawPending = true ∨ s.part.gate.resetPending = true
    let b : Block := { c with
      film := { c.film with
        st := .jammed, interrupted := if f.st = .leader then .leaderAdvance else .frameAdvance, running := false },
      stand := { c.stand with flags := c.stand.flags ||| 0x04 } }
    let answers (x : Block) := exec .advanceTimeout s = .next ⟨s.pending, settle (replyTimeoutOp x)⟩
      ∧ exec .standClockIncrement s = .next ⟨s.pending, settle (replyTimeoutOp x)⟩
    (s.part.inReset = true ∨ ¬ advances ∨ ¬ out → exec .advanceTimeout s = .next s)
    ∧ (s.part.inReset = false → advances → out → ¬ service → answers b)
    ∧ (s.part.inReset = false → advances → out → service → pending → answers (endPending b))
    ∧ (s.part.inReset = false → advances → out → service → ¬ pending → answers (endCancelled .jam .jammed b)))
  ∧ (∀ b : Block, b.link.st ≠ .awaiting ∨ b.link.elapsed < b.link.replyLimit → replyTimeoutOp b = b)

/-- LOAD, accepted with the film EMPTY, the length in 12-72, the gate EMPTY or DONE and a page FREE: the lowest FREE page is
CURRENT with the next roll number, its header writes and the clearing of its records are issued, and the film is READY at once
with no leader, else its first leader advance begins. Otherwise it is a refused write at the film word. The header writes are those
of words 0 to 5: none of the live word 6 (the model's choice, log 42). -/
def Obligations.LoadTakesPage : Prop :=
  ∀ (len : BitVec 8) (s : State), s.part.reached →
    let n := len.toNat
    let f := s.part.film
    let st : Settings := s.part.stand.latched
    let accepted (p : Fin 4) := f.st = .empty ∧ 12 ≤ n ∧ n ≤ 72 ∧ (s.part.gate.st = .empty ∨ s.part.gate.st = .done)
      ∧ s.part.pages.pages[p].st = .free ∧ ∀ q : Fin 4, q < p → s.part.pages.pages[q].st ≠ .free
    let roll : Word := if s.part.pages.rollCounter = 65535 then 1 else s.part.pages.rollCounter + 1
    let head (p : Fin 4) (k : Nat) : Nat := windowBase s.part.path.straps + (0x0A00 + 0x380 * p.val + 2 * k)
    let b (p : Fin 4) : Block := { s.part with
      pages := { s.part.pages with
        rollCounter := roll,
        pages := s.part.pages.pages.set p ⟨.current, roll, n, 0, s.part.stand.day, 0, Vector.replicate 72 ⟨.none, 0, some 0, 0, 0⟩⟩ },
      path := { s.part.path with partList := s.part.path.partList ++
        [⟨.pageWrites, .words [.write (head p 0) 1, .write (head p 1) roll, .write (head p 2) (BitVec.ofNat 16 n),
            .write (head p 3) 0, .write (head p 4) s.part.stand.day, .write (head p 5) 0], []⟩,
          ⟨.pageWrites, .clear p 0, []⟩] },
      film := { f with length := n, used := 0, page := some p, lastCommand := .load, running := true, leaderLeft := st.leader } }
    let answers (c : Block) := exec (.load len) s = .next ⟨s.pending, settle c⟩
    (∀ p, accepted p → st.leader = 0 → answers { b p with
        film := { (b p).film with st := .ready, running := false },
        stand := { s.part.stand with flags := s.part.stand.flags ||| 0x04 } })
    ∧ (∀ p, accepted p → st.leader ≠ 0 → answers { b p with
        film := { (b p).film with
          st := .leader, pulses := 0, elapsed := 0, pulsesPerFrame := st.pulses, limit := st.advanceLimit } })
    ∧ ((∀ p, ¬ accepted p) → answers (refuse (windowBase s.part.path.straps + 0x2C) s.part))

/-- UNLOAD, RETRY, the switch's closing and the rewind limit. UNLOAD and a RETRY of a rewind begin one, which completes at once
when the switch reads closed; RETRY repeats an advance from its start; each is refused at the film word where it is not accepted.
A rewind completes by handing its page on, FREE with no frame and else EXPOSED, the film EMPTY and FILM raised. A rewind timeout is
the increment of the stand clock at which the rewind limit runs out: the film is JAMMED and FILM raised; at any other moment it
changes nothing (log 9); a reply limit that runs out at the same increment has its timeout after it (the model's order, log 10). The
switch's level is the one the command carries (log 7), and an UNLOAD in JAMMED makes the rewind the interrupted motion (log 14). -/
def Obligations.FilmRewindsAndRetries : Prop :=
  (∀ (closed : Bool) (s : State), s.part.reached →
    let f : Film := { s.part.film with switchClosed := closed }
    let st : Settings := s.part.stand.latched
    let b : Block := { s.part with film := f }
    let accepted := f.st = .empty ∨ ((f.st = .ready ∨ f.st = .ended ∨ f.st = .jammed)
      ∧ (s.part.gate.st = .empty ∨ s.part.gate.st = .done ∨ s.part.gate.st = .metering))
    let rewind (c : Block) : Block := if closed then completeRewind c else c
    let begun (cmd : FilmCommand) (m : Motion) : Block := rewind { b with
      film := { f with
        st := .rewinding, lastCommand := cmd, running := true, interrupted := m, limit := st.rewindLimit, elapsed := 0 } }
    let refused : Block := refuse (windowBase s.part.path.straps + 0x2C) b
    let repeated (x : FilmState) : Block := { b with
      film := { f with
        st := x, lastCommand := .retry, running := true, pulses := 0, pulsesPerFrame := st.pulses, limit := st.advanceLimit,
        elapsed := 0 } }
    (accepted → exec (.unload closed) s = .next ⟨s.pending, settle (begun .unload (if f.st = .jammed then .rewind else f.interrupted))⟩)
    ∧ (¬ accepted → exec (.unload closed) s = .next ⟨s.pending, settle refused⟩)
    ∧ (f.st = .jammed → f.interrupted = .leaderAdvance →
        exec (.retry closed) s = .next ⟨s.pending, settle (repeated .leader)⟩)
    ∧ (f.st = .jammed → f.interrupted = .frameAdvance →
        exec (.retry closed) s = .next ⟨s.pending, settle (repeated .advancing)⟩)
    ∧ (f.st = .jammed → f.interrupted = .rewind →
        exec (.retry closed) s = .next ⟨s.pending, settle (begun .retry .rewind)⟩)
    ∧ (f.st ≠ .jammed → exec (.retry closed) s = .next ⟨s.pending, settle refused⟩))
  ∧ (∀ s : State,
    let b : Block := { s.part with film := { s.part.film with switchClosed := true } }
    let c := countTick s.part
    let out := s.part.film.limit ≤ s.part.film.elapsed + 1
    let jammed : Block := { c with
      film := { c.film with st := .jammed, interrupted := .rewind, running := false },
      stand := { c.stand with flags := c.stand.flags ||| 0x04 } }
    (s.part.film.st = .rewinding → exec .endOfFilmSwitchClosing s = .next ⟨s.pending, settle (completeRewind b)⟩)
    ∧ (s.part.film.st ≠ .rewinding → exec .endOfFilmSwitchClosing s = .next ⟨s.pending, settle b⟩)
    ∧ (s.part.inReset = false → s.part.film.st = .rewinding → out →
        exec .rewindTimeout s = .next ⟨s.pending, settle (replyTimeoutOp jammed)⟩
          ∧ exec .standClockIncrement s = .next ⟨s.pending, settle (replyTimeoutOp jammed)⟩)
    ∧ (s.part.inReset = true ∨ s.part.film.st ≠ .rewinding ∨ ¬ out → exec .rewindTimeout s = .next s))
  ∧ (∀ b : Block,
    let emptied : Film := { b.film with
      st := .empty, length := 0, used := 0, page := none, leaderLeft := 0, interrupted := .none, running := false }
    let notice : Stand := { b.stand with flags := b.stand.flags ||| 0x04 }
    (b.film.page = none → completeRewind b = { b with film := emptied, stand := notice })
    ∧ (∀ p, b.film.page = some p →
        let st : PageState := if b.film.used = 0 then .free else .exposed
        completeRewind b = { b with
          film := emptied, stand := notice,
          pages := { b.pages with pages := b.pages.pages.set p { b.pages.pages[p] with st := st } },
          path := { b.path with partList := b.path.partList ++
            [⟨.pageWrites, .words [.write (addrOf b.path.straps (.header p 0)) (BitVec.ofNat 16 st.code)], []⟩] } }))

/-! ## Charge Unit and Account Store Port -/

/-- Account records: sound when word 7 is the complement of the wrapping sum of words 0-6 and the state is OPEN or STOPPED. A
posting keeps words 0, 3 and 4, adds its delta to the balance within 32 bits, counts a CHARGE up and a CREDIT down in word 5,
stamps the day and recomputes the check; a fill step sets the balance, clears word 5, and makes a faulted record OPEN, class 0,
floor 0. -/
def Obligations.RecordsFormed : Prop :=
  ∀ (a b c d e f g h : Word) (day : Word) (p : Posting) (opening : Amount),
    let r : List Word := [a, b, c, d, e, f, g, h]
    let check (x0 x1 x2 x3 x4 x5 x6 : Word) : Word := ~~~ (x0 + x1 + x2 + x3 + x4 + x5 + x6)
    let code := a.toNat / 256
    let balance := max (-2147483648) (min 2147483647 ((c ++ b : Amount).toInt + p.delta))
    let life : Word := match p.kind with
      | .charge => BitVec.ofNat 16 (min 65535 (f.toNat + 1))
      | .credit => BitVec.ofNat 16 (f.toNat - 1)
    let sound := recordSound r = true
    (sound ↔ h = check a b c d e f g ∧ (code = 1 ∨ code = 2))
    ∧ (∃ lo hi : Word, (hi ++ lo : Amount).toInt = balance
        ∧ postedRecord r p day = [a, lo, hi, d, e, life, day, check a lo hi d e life day])
    ∧ (∃ lo hi : Word, (hi ++ lo : Amount) = opening
        ∧ (sound → filledRecord r opening day = [a, lo, hi, d, e, 0, day, check a lo hi d e 0 day])
        ∧ (¬ sound → filledRecord r opening day = [0x0100, lo, hi, 0, 0, 0, day, check 0x0100 lo hi 0 0 0 day]))

/-- The application of the head posting. Its read completes: a sound record goes to a write cycle of its eight new words; a
faulted one ends the application, the delta joining the unposted total, the account set as the last faulted, ACCOUNT raised. The
ready event of the cycle stores the words and takes the posting off the queue. Room then found goes to a waiting exposure and a
waiting walk, in either order when both wait (a free choice, log 11); when the next command is a SPOIL, it may be taken in the same
event before them, and they then find what room it leaves (a free choice, log 35; LabelCommandsTaken). -/
def Obligations.PostingApplied : Prop :=
  (∀ (p : Posting) (tail : List Posting) (got : List Word) (v : Service) (s : State),
    s.part.path.port = some v → v.last = true → v.owner = .postingRead → v.got = got → s.part.charges.queue = p :: tail →
    let l : List (Nat × Word) := (postedRecord got p s.part.stand.day).zipIdx.map (fun x =>
      (0x20000 + 0x10 * p.account.val + 2 * x.2, x.1))
    let b : Block := { s.part with
      nv := { s.part.nv with phase := .idle, serving := none, pair := false, latch := [] },
      path := { s.part.path with port := none },
      charges := { s.part.charges with
        queue := tail, applying := false, lastFaulted := some p.account,
        unposted := BitVec.ofInt 32 (max (-2147483648) (min 2147483647 (s.part.charges.unposted.toInt + p.delta))) },
      stand := { s.part.stand with flags := s.part.stand.flags ||| 0x20 } }
    let drawn : Block := { b with freeCount := b.freeCount + 1 }
    let answers (x : Block) := exec .postingReadComplete s = .next ⟨s.pending, settle x⟩
    (recordSound got = true → answers { s.part with
        nv := { s.part.nv with phase := .writing, latch := l },
        path := { s.part.path with
          port := none,
          partList := s.part.path.partList ++ [⟨.postingWrite, .words (l.map (fun x => .write x.1 x.2)), []⟩] } })
    ∧ (recordSound got = false → (∀ q f rest, s.pending ≠ .spoil q f :: rest) → answers (roomFound b))
    ∧ (∀ q f rest, recordSound got = false → s.pending = .spoil q f :: rest → answers drawn ∨ answers (roomFound drawn)))
  ∧ (∀ (l : List (Nat × Word)) (s : State),
    s.part.nv.serving = some .posting → s.part.nvCycle = some l → (∀ v, s.part.path.port = some v → v.acc.isNv = false) →
    let b : Block := { s.part with
      mem := l.foldl (fun m x => writeWord m x.1 x.2) s.part.mem, nvCycle := none,
      nv := { s.part.nv with phase := .idle, serving := none, pair := false, latch := [] },
      charges := { s.part.charges with queue := s.part.charges.queue.tail, applying := false } }
    let drawn : Block := { b with freeCount := b.freeCount + 1 }
    let answers (x : Block) := exec .postingWriteComplete s = .next ⟨s.pending, settle x⟩
    ((∀ q f rest, s.pending ≠ .spoil q f :: rest) → answers (roomFound b))
    ∧ (∀ q f rest, s.pending = .spoil q f :: rest → answers drawn ∨ answers (roomFound drawn)))
  ∧ (∀ b : Block,
    let c : Block := { b with freeCount := b.freeCount + 1 }
    let both := (∃ a, b.gate.active = some a ∧ a.phase = .waiting) ∧ b.film.st = .ready ∧ b.pages.walkQueue ≠ []
    (¬ both → roomFound b = walk (tryExpose b))
    ∧ (both → roomFound b = walk (tryExpose c) ∨ roomFound b = tryExpose (walk c))
    ∧ ((∃ a, b.gate.active = some a ∧ a.phase = .waiting) → b.film.st = .ready →
        b.charges.queue.length + b.charges.reserved < 8 → tryExpose b = { b with
          charges := { b.charges with reserved := b.charges.reserved + 1 },
          expo := { b.expo with stamp := b.stand.clock, lamp := .expose },
          film := { b.film with st := .exposing },
          gate := { b.gate with active := b.gate.active.map (fun a => { a with phase := .exposing }) } })
    ∧ ((∀ a, b.gate.active = some a → a.phase ≠ .waiting) ∨ b.film.st ≠ .ready
        ∨ 8 ≤ b.charges.queue.length + b.charges.reserved → tryExpose b = b))

/-- The gate and the fill: CLOSE closes the gate and stops a fill, after the step in progress if there is one; FILL is accepted
with the gate OPEN, the stand HELD, the posting queue empty and no fill running, else refused at the fill word; both also while
another access is on the bus. A step's read leads to the write of its new record; at the ready event the progress rises, and the
fill is DONE at 128, STOPPED when stopping, else its next step waits. -/
def Obligations.FillRuns : Prop :=
  (∀ s : State, s.part.awake →
    let n := s.part.nv
    let accepted := n.gateOpen = true ∧ s.part.stand.st = .held ∧ s.part.charges.queue = [] ∧ n.fill ≠ .filling
    (n.fill ≠ .filling → exec .closeGate s = .next ⟨s.pending, settle { s.part with nv := { n with gateOpen := false } }⟩)
    ∧ (n.fill = .filling → n.serving = some .fill →
        exec .closeGate s = .next ⟨s.pending, settle { s.part with nv := { n with gateOpen := false, stopping := true } }⟩)
    ∧ (n.fill = .filling → n.serving ≠ some .fill → exec .closeGate s = .next ⟨s.pending, settle { s.part with
        nv := { n with gateOpen := false, fill := .stopped, stopping := false, fillClaim := false },
        stand := { s.part.stand with flags := s.part.stand.flags ||| 0x20 } }⟩)
    ∧ (accepted → exec .fill s = .next ⟨s.pending, settle { s.part with
        nv := { n with fill := .filling, fillAmount := n.opening, progress := 0, stopping := false, fillClaim := true } }⟩)
    ∧ (¬ accepted → exec .fill s = .next ⟨s.pending, settle (refuse (windowBase s.part.path.straps + 0x36) s.part)⟩))
  ∧ (∀ (got : List Word) (v : Service) (s : State),
    s.part.path.port = some v → v.last = true → v.owner = .fillRead → v.got = got → s.part.nv.progress < 128 →
    let l : List (Nat × Word) := (filledRecord got s.part.nv.fillAmount s.part.stand.day).zipIdx.map (fun x =>
      (0x20000 + 0x10 * s.part.nv.progress + 2 * x.2, x.1))
    exec .fillStepReadComplete s = .next ⟨s.pending, settle { s.part with
      nv := { s.part.nv with phase := .writing, latch := l },
      path := { s.part.path with
        port := none,
        partList := s.part.path.partList ++ [⟨.fillWrite, .words (l.map (fun x => .write x.1 x.2)), []⟩] } }⟩)
  ∧ (∀ (l : List (Nat × Word)) (s : State),
    s.part.nv.serving = some .fill → s.part.nvCycle = some l → (∀ v, s.part.path.port = some v → v.acc.isNv = false) →
    let n : Nv := { s.part.nv with
      phase := .idle, serving := none, pair := false, latch := [], progress := s.part.nv.progress + 1 }
    let b : Block := { s.part with
      mem := l.foldl (fun m x => writeWord m x.1 x.2) s.part.mem, nvCycle := none, nv := n }
    let ended (st : FillState) : Block := { b with
      nv := { n with fill := st, stopping := false, fillClaim := false },
      stand := { s.part.stand with flags := s.part.stand.flags ||| 0x20 } }
    (n.progress = 128 → exec .fillStepComplete s = .next ⟨s.pending, settle (ended .done)⟩)
    ∧ (n.progress ≠ 128 → n.stopping = true → exec .fillStepComplete s = .next ⟨s.pending, settle (ended .stopped)⟩)
    ∧ (n.progress ≠ 128 → n.stopping = false →
        exec .fillStepComplete s = .next ⟨s.pending, settle { b with nv := { n with fillClaim := true } }⟩))

/-- A controller access to the NV store, with no access on the bus and outside reset: it waits while the port is busy; a free port
begins a read; it drops a write with the gate CLOSED or a fill running as a refused write, and a check word's write without a
report; it begins the read of an account write's record, and the write cycle of a general-area write. -/
def Obligations.StoreAccessTaken : Prop :=
  ∀ s : State, s.part.path.bus = .idle → s.part.inReset = false →
    let n := s.part.nv
    let p := s.part.path
    let waiting (x : Access) : Block := { s.part with path := { p with bus := .nvWait x } }
    let closed := n.gateOpen = false ∨ n.fill = .filling
    (∀ w, s.part.nvFree = false →
      exec (.controllerNvRead w) s = .next ⟨s.pending, settle (waiting (.read (0x20000 + 2 * w.val)))⟩)
    ∧ (∀ w, s.part.nvFree = true → exec (.controllerNvRead w) s = .next ⟨s.pending, arbitrate { s.part with
        nv := { n with phase := .reading, serving := some .ctlRead, pair := false },
        path := { p with
          bus := .nvTaken (.read (0x20000 + 2 * w.val)),
          ctlWait := some ⟨.ctlNvRead, .words [.read (0x20000 + 2 * w.val)], []⟩ } }⟩)
    ∧ (∀ (a : Fin 128) (k : Fin 8) (v : Word),
      let addr := 0x20000 + 0x10 * a.val + 2 * k.val
      (s.part.nvFree = false →
        exec (.accountTableWrite a k v) s = .next ⟨s.pending, settle (waiting (.write addr v))⟩)
      ∧ (s.part.nvFree = true → closed →
        exec (.accountTableWrite a k v) s = .next ⟨s.pending, settle (refuse addr s.part)⟩)
      ∧ (s.part.nvFree = true → ¬ closed → k = 7 → exec (.accountTableWrite a k v) s = .next ⟨s.pending, settle s.part⟩)
      ∧ (s.part.nvFree = true → ¬ closed → k ≠ 7 →
        exec (.accountTableWrite a k v) s = .next ⟨s.pending, arbitrate { s.part with
          nv := { n with phase := .reading, serving := some .ctlAccount, pair := true },
          path := { p with
            bus := .nvTaken (.write addr v),
            ctlWait := some ⟨.ctlAccountRead, .words ((List.range 7).map (fun i => .read (0x20000 + 0x10 * a.val + 2 * i))), []⟩ } }⟩))
    ∧ (∀ (w : Fin 4096) (v : Word), 0x400 ≤ w.val →
      let addr := 0x20000 + 2 * w.val
      (s.part.nvFree = false → exec (.generalAreaWrite w v) s = .next ⟨s.pending, settle (waiting (.write addr v))⟩)
      ∧ (s.part.nvFree = true → closed → exec (.generalAreaWrite w v) s = .next ⟨s.pending, settle (refuse addr s.part)⟩)
      ∧ (s.part.nvFree = true → ¬ closed → exec (.generalAreaWrite w v) s = .next ⟨s.pending, arbitrate { s.part with
          nv := { n with phase := .writing, serving := some .ctlGeneral, pair := false, latch := [(addr, v)] },
          path := { p with
            bus := .nvTaken (.write addr v), ctlWait := some ⟨.ctlGeneralWrite, .words [.write addr v], []⟩ } }⟩))

/-- The completions of the controller's NV accesses: a read returns its word; the record read of an account write leads to one
write cycle of the word and the recomputed check; the ready events store the cycle's words and let the held access complete; the
ready event after a reset stores them and lets the port take claims. -/
def Obligations.StoreAccessCompletes : Prop :=
  ∀ s : State,
    let n := s.part.nv
    let p := s.part.path
    let idle : Nv := { n with phase := .idle, serving := none, pair := false, latch := [] }
    (∀ v w, p.port = some v → v.last = true → v.owner = .ctlNvRead → v.got = [w] →
      exec .controllerNvReadComplete s = .next ⟨s.pending, settle { s.part with
        nv := idle, path := { p with port := none, bus := .idle, readData := w } }⟩)
    ∧ (∀ v (a : Fin 128) (k : Fin 8) (x w0 w1 w2 w3 w4 w5 w6 : Word), p.port = some v → v.last = true → v.owner = .ctlAccountRead →
      v.got = [w0, w1, w2, w3, w4, w5, w6] → p.bus = .nvTaken (.write (0x20000 + 0x10 * a.val + 2 * k.val) x) → k ≠ 7 →
      let l : List (Nat × Word) := [(0x20000 + 0x10 * a.val + 2 * k.val, x),
        (0x20000 + 0x10 * a.val + 14, ~~~ (([w0, w1, w2, w3, w4, w5, w6].set k.val x).sum))]
      exec .accountWriteReadComplete s = .next ⟨s.pending, settle { s.part with
        nv := { n with phase := .writing, latch := l },
        path := { p with
          port := none, ctlWait := some ⟨.ctlAccountWrite, .words (l.map (fun y => .write y.1 y.2)), []⟩ } }⟩)
    ∧ (∀ l, s.part.nvCycle = some l → (∀ v, p.port = some v → v.acc.isNv = false) →
      let b : Block := { s.part with mem := l.foldl (fun m x => writeWord m x.1 x.2) s.part.mem, nvCycle := none }
      (n.serving = some .ctlAccount → exec .accountWriteComplete s = .next ⟨s.pending, settle { b with
        nv := idle, path := { p with bus := .idle } }⟩)
      ∧ (n.serving = some .ctlGeneral → exec .generalAreaWriteComplete s = .next ⟨s.pending, settle { b with
        nv := idle, path := { p with bus := .idle } }⟩)
      ∧ (n.serving = none → exec .nvReadyAfterReset s = .next ⟨s.pending, settle b⟩))

/-! ## Pages, labels and the printer link -/

/-- RETURN is accepted on an EXPOSED page: with a DUE or UNSURE frame it is RETURNED at the tail of the print queue with its place
as return position, the head is tested and a frame may be selected; with none it is FREE at once and PAGE is raised. DISCARD is
accepted on an EXPOSED page, or a RETURNED one that is not on the wire: it is DISCARDING, leaves the print queue and joins the tail
of the walk queue, its walk beginning at frame 1 when that queue was empty. Otherwise each is refused at the command word. -/
def Obligations.PagesReturnedAndDiscarded : Prop :=
  ∀ (p : Fin 4) (s : State), s.part.reached →
    let pg := s.part.pages.pages[p]
    let head (k : Nat) : Nat := windowBase s.part.path.straps + (0x0A00 + 0x380 * p.val + 2 * k)
    let word0 (v : Word) : WordSet := ⟨.pageWrites, .words [.write (head 0) v], []⟩
    let waits (l : LabelState) := l = .due ∨ l = .unsure
    let toPrint := ∃ f : Fin 72, waits pg.frames[f].label
    let place := s.part.pages.printQueue.length + 1
    let wire := (s.part.link.st = .sending ∨ s.part.link.st = .awaiting) ∧ ∃ f, s.part.link.message = some (p, f)
    let leaves (st : PageState) : Block := { s.part with
      pages := { s.part.pages with pages := s.part.pages.pages.set p { pg with st := st } },
      path := { s.part.path with partList := s.part.path.partList ++ [word0 (BitVec.ofNat 16 st.code)] } }
    let walks (b : Block) : Block := if b.pages.walkQueue = [] then
        walk { b with pages := { b.pages with walkQueue := [p], walkPos := 1 } }
      else { b with pages := { b.pages with walkQueue := b.pages.walkQueue ++ [p] } }
    let answers (c : Instr) (b : Block) := exec c s = .next ⟨s.pending, settle b⟩
    (pg.st = .exposed → toPrint → answers (.returnPage p) (selectFrame (testHead { s.part with
        pages := { s.part.pages with
          pages := s.part.pages.pages.set p { pg with st := .returned, position := place },
          printQueue := s.part.pages.printQueue ++ [p] },
        path := { s.part.path with partList := s.part.path.partList ++
          [word0 3, ⟨.pageWrites, .words [.write (head 5) (BitVec.ofNat 16 place)], []⟩] } })))
    ∧ (pg.st = .exposed → ¬ toPrint → answers (.returnPage p) { leaves .free with
        stand := { s.part.stand with flags := s.part.stand.flags ||| 0x08 } })
    ∧ (pg.st ≠ .exposed → answers (.returnPage p) (refuse (head 7) s.part))
    ∧ (pg.st = .exposed → ¬ wire → answers (.discard p) (selectFrame (walks (leaves .discarding))))
    ∧ (pg.st = .returned → ¬ wire →
        answers (.discard p) (selectFrame (walks (testHead (leaveQueue p (leaves .discarding))))))
    ∧ ((pg.st ≠ .exposed ∧ pg.st ≠ .returned) ∨ wire → answers (.discard p) (refuse (head 7) s.part))

/-- The print queue: when a page leaves, it takes position 0, the rest keep their order and each takes its place as position; the
position word of each page whose place has changed is written, in queue order, then that of the page that left (log 31). The head
test frees a head page none of whose frames is DUE, SENT or UNSURE, takes it out, raises PAGE, and is made again; else it changes
nothing. A selection, with the link IDLE, takes the head page's first DUE frame: SENT with one attempt more, up to 3, the link
SENDING it and its composition under way. -/
def Obligations.PrintQueueServed : Prop :=
  (∀ (p : Fin 4) (b : Block),
    let c := leaveQueue p b
    let rest := b.pages.printQueue.filter (fun q => decide (q ≠ p))
    let position (q : Fin 4) (k : Nat) : WordSet :=
      ⟨.pageWrites, .words [.write (windowBase b.path.straps + (0x0A00 + 0x380 * q.val + 10)) (BitVec.ofNat 16 k)], []⟩
    c.pages.printQueue = rest
    ∧ c.pages.pages[p].position = 0
    ∧ (b.pages.printQueue.Nodup → ∀ i q, c.pages.printQueue[i]? = some q → c.pages.pages[q].position = i + 1)
    ∧ (b.pages.printQueue.Nodup → c.path = { b.path with partList := b.path.partList
        ++ (rest.zipIdx.filter (fun x => decide (b.pages.pages[x.1].position ≠ x.2 + 1))).map (fun x => position x.1 (x.2 + 1))
        ++ [position p 0] })
    ∧ (∀ q : Fin 4, c.pages.pages[q] = { b.pages.pages[q] with position := c.pages.pages[q].position })
    ∧ c.stand = b.stand ∧ c.charges = b.charges ∧ c.link = b.link ∧ c.mem = b.mem)
  ∧ (∀ b : Block,
    (b.pages.printQueue = [] → testHead b = b)
    ∧ (∀ p tail, b.pages.printQueue = p :: tail →
        (∃ f : Fin 72, b.pages.pages[p].frames[f].label = .due ∨ b.pages.pages[p].frames[f].label = .sent
          ∨ b.pages.pages[p].frames[f].label = .unsure) → testHead b = b)
    ∧ (∀ p tail, b.pages.printQueue = p :: tail → p ∉ tail → tail.length ≤ 3 →
        (∀ f : Fin 72, b.pages.pages[p].frames[f].label ≠ .due ∧ b.pages.pages[p].frames[f].label ≠ .sent
          ∧ b.pages.pages[p].frames[f].label ≠ .unsure) →
        let c := leaveQueue p (setPageState p .free b)
        c.pages.pages[p].st = .free ∧ c.pages.printQueue = tail
          ∧ testHead b = testHead { c with stand := { b.stand with flags := b.stand.flags ||| 0x08 } }))
  ∧ (∀ b : Block,
    (b.link.st ≠ .idle ∨ b.pages.printQueue = [] → selectFrame b = b)
    ∧ (∀ p tail, b.pages.printQueue = p :: tail → (∀ f : Fin 72, b.pages.pages[p].frames[f].label ≠ .due) → selectFrame b = b)
    ∧ (∀ p tail (f : Fin 72), b.link.st = .idle → b.pages.printQueue = p :: tail → b.pages.pages[p].frames[f].label = .due →
        (∀ g : Fin 72, g < f → b.pages.pages[p].frames[g].label ≠ .due) →
        let fr := b.pages.pages[p].frames[f]
        let tries := min 3 (fr.attempts + 1)
        let record := windowBase b.path.straps + (0x0A00 + 0x380 * p.val + 0x10 + 12 * f.val)
        selectFrame b = { b with
          pages := { b.pages with
            pages := b.pages.pages.set p { b.pages.pages[p] with
              frames := b.pages.pages[p].frames.set f { fr with label := .sent, attempts := tries } },
            composing := true },
          link := { b.link with st := .sending, message := some (p, f), bytes := [], next := 0 },
          path := { b.path with partList := b.path.partList ++
            [⟨.pageWrites, .words [.write (record + 6) (BitVec.ofNat 16 (2 + tries * 16
                + (match fr.template with | none => 31 | some t => t.val) * 256))], []⟩,
              ⟨.compose p f, .compose p f, []⟩] } }))

/-- Spoiling a frame and the discard walk. A spoiled frame is SPOILED, its label word's write issued, its template's use count one
lower, and a CREDIT of its account and amount queued. The walk, step by step: it ends with the walk queue empty; a page walked to
its frames used is FREE with its header word written and PAGE raised, and the next page's walk begins at 1; a DUE or UNSURE frame is
spoiled with room in the posting queue and waited at without; any other is passed. It always comes to one of its two ends, and no
frame but a DUE or UNSURE one changes. -/
def Obligations.DiscardWalkSpoils : Prop :=
  (∀ (p : Fin 4) (f : Fin 72) (b : Block),
    let fr := b.pages.pages[p].frames[f]
    let c := spoilFrame p f b
    c.pages.pages = b.pages.pages.set p { b.pages.pages[p] with
        frames := b.pages.pages[p].frames.set f { fr with label := .spoiled } }
    ∧ (∀ t : Fin 16, c.pages.useCount[t] = b.pages.useCount[t] - (if fr.template = some t then 1 else 0))
    ∧ c.charges = { b.charges with queue := b.charges.queue ++
        [{ account := fr.account, delta := fr.amount, kind := .credit, page := p, frame := f }] }
    ∧ c.path = { b.path with partList := b.path.partList ++
        [⟨.pageWrites, .words [.write (addrOf b.path.straps (.frame p f 3)) (BitVec.ofNat 16 (5 + fr.attempts * 16
          + (match fr.template with | none => 31 | some t => t.val) * 256))], []⟩] }
    ∧ c.pages.printQueue = b.pages.printQueue ∧ c.pages.walkQueue = b.pages.walkQueue ∧ c.pages.walkPos = b.pages.walkPos
    ∧ c.stand = b.stand ∧ c.link = b.link ∧ c.gate = b.gate ∧ c.film = b.film ∧ c.mem = b.mem)
  ∧ (∀ (fuel : Nat) (b : Block),
    let at' (p : Fin 4) (rest : List (Fin 4)) (f : Fin 72) := b.pages.walkQueue = p :: rest ∧ b.pages.walkPos = f.val + 1
      ∧ f.val + 1 ≤ b.pages.pages[p].used
    let spoilable (p : Fin 4) (f : Fin 72) :=
      b.pages.pages[p].frames[f].label = .due ∨ b.pages.pages[p].frames[f].label = .unsure
    let room := b.charges.queue.length + b.charges.reserved < 8
    let past (c : Block) : Block := { c with pages := { c.pages with walkPos := b.pages.walkPos + 1 } }
    walk b = walkOn 292 b
    ∧ (b.pages.walkQueue = [] → walkOn (fuel + 1) b = b)
    ∧ (∀ p rest, b.pages.walkQueue = p :: rest → b.pages.pages[p].used < b.pages.walkPos →
        walkOn (fuel + 1) b = walkOn fuel { b with
          pages := { b.pages with
            pages := b.pages.pages.set p { b.pages.pages[p] with st := .free }, walkQueue := rest,
            walkPos := if rest = [] then 0 else 1 },
          path := { b.path with partList := b.path.partList ++
            [⟨.pageWrites, .words [.write (addrOf b.path.straps (.header p 0)) 0], []⟩] },
          stand := { b.stand with flags := b.stand.flags ||| 0x08 } })
    ∧ (∀ p rest f, at' p rest f → ¬ spoilable p f → walkOn (fuel + 1) b = walkOn fuel (past b))
    ∧ (∀ p rest f, at' p rest f → spoilable p f → room → walkOn (fuel + 1) b = walkOn fuel (past (spoilFrame p f b)))
    ∧ (∀ p rest f, at' p rest f → spoilable p f → ¬ room → walkOn (fuel + 1) b = b))
  ∧ (∀ b : Block, b.pages.walkQueue.length ≤ 4 → (∀ p : Fin 4, b.pages.pages[p].used ≤ 72) →
    (b.pages.walkQueue ≠ [] → 1 ≤ b.pages.walkPos) →
    let c := walk b
    (c.pages.walkQueue = [] ∨ ∃ p rest, ∃ f : Fin 72, c.pages.walkQueue = p :: rest ∧ c.pages.walkPos = f.val + 1
        ∧ f.val + 1 ≤ c.pages.pages[p].used
        ∧ (c.pages.pages[p].frames[f].label = .due ∨ c.pages.pages[p].frames[f].label = .unsure)
        ∧ 8 ≤ c.charges.queue.length + c.charges.reserved)
    ∧ (∀ (p : Fin 4) (f : Fin 72),
        c.pages.pages[p].frames[f] = b.pages.pages[p].frames[f]
        ∨ ((b.pages.pages[p].frames[f].label = .due ∨ b.pages.pages[p].frames[f].label = .unsure)
          ∧ c.pages.pages[p].frames[f] = { b.pages.pages[p].frames[f] with label := .spoiled }))
    ∧ c.link = b.link ∧ c.gate = b.gate ∧ c.film = b.film ∧ c.nv = b.nv ∧ c.orders = b.orders ∧ c.mem = b.mem)

/-- SPOIL is accepted on a DUE or UNSURE frame within the frames used of a CURRENT, EXPOSED or RETURNED page with room in the
posting queue; REPRINT and ACCEPT on an UNSURE frame of a RETURNED page, which they make DUE and PRINTED. Then the head is tested,
after SPOIL and ACCEPT, and a frame may be selected. Otherwise each is refused at the label word. A SPOIL's event ends with the room
it leaves going to what waits for it (`roomFound`, PostingApplied; log 35), which is nothing when no exposure and no walk waits, or
no room is left. -/
def Obligations.LabelCommandsTaken : Prop :=
  ∀ (p : Fin 4) (f : Fin 72) (s : State), s.part.reached →
    let pg := s.part.pages.pages[p]
    let fr := pg.frames[f]
    let label : Nat := windowBase s.part.path.straps + (0x0A00 + 0x380 * p.val + 0x10 + 12 * f.val + 6)
    let rest : Nat := fr.attempts * 16 + (match fr.template with | none => 31 | some t => t.val) * 256
    let becomes (st : LabelState) : Block := { s.part with
      pages := { s.part.pages with pages := s.part.pages.pages.set p { pg with frames := pg.frames.set f { fr with label := st } } },
      path := { s.part.path with partList := s.part.path.partList ++
        [⟨.pageWrites, .words [.write label (BitVec.ofNat 16 (st.code + rest))], []⟩] } }
    let unused (b : Block) : Block := match fr.template with
      | none => b
      | some t => { b with pages := { b.pages with useCount := b.pages.useCount.set t (b.pages.useCount[t] - 1) } }
    let spoils := (pg.st = .current ∨ pg.st = .exposed ∨ pg.st = .returned) ∧ (fr.label = .due ∨ fr.label = .unsure)
      ∧ f.val + 1 ≤ pg.used ∧ s.part.charges.queue.length + s.part.charges.reserved < 8
    let settles := pg.st = .returned ∧ fr.label = .unsure
    let answers (c : Instr) (b : Block) := exec c s = .next ⟨s.pending, settle b⟩
    (spoils → answers (.spoil p f) (roomFound (selectFrame (testHead (spoilFrame p f s.part)))))
    ∧ (¬ spoils → answers (.spoil p f) (roomFound (refuse label s.part)))
    ∧ (∀ b : Block, (∀ a, b.gate.active = some a → a.phase ≠ .waiting) → b.pages.walkQueue = [] → roomFound b = b)
    ∧ (∀ (b : Block) (q : Fin 4) (rest : List (Fin 4)) (g : Fin 72), (∀ a, b.gate.active = some a → a.phase ≠ .waiting) →
        b.pages.walkQueue = q :: rest → b.pages.walkPos = g.val + 1 → g.val + 1 ≤ b.pages.pages[q].used →
        (b.pages.pages[q].frames[g].label = .due ∨ b.pages.pages[q].frames[g].label = .unsure) →
        8 ≤ b.charges.queue.length + b.charges.reserved → roomFound b = b)
    ∧ (∀ b : Block, b.pages.walkQueue = [] → 8 ≤ b.charges.queue.length + b.charges.reserved → roomFound b = b)
    ∧ (settles → answers (.reprint p f) (selectFrame (becomes .due)))
    ∧ (¬ settles → answers (.reprint p f) (refuse label s.part))
    ∧ (settles → answers (.accept p f) (selectFrame (testHead (unused (becomes .printed)))))
    ∧ (¬ settles → answers (.accept p f) (refuse label s.part))

/-- Transmission: a composition gives its 54 bytes and the first begins when the line is at rest, one set aside gives nothing; the
end of a byte's stop bit begins the next of a message being sent, ends the message after its last, which awaits the reply, and
otherwise leaves the line at rest; the line's return to rest lets the receiver hear again. The composer reads the frame's record,
the records that follow it in its run, and its template's 24 line words; the message is the page, the frame position, the two lines
of 24 characters, the sum byte and their marks; a line is the first 24 characters of its words' text, low byte first, with each
field from its source. The model's own: MESSAGE_END when the last byte is not on the line, and TRANSMIT_STOP_BIT_END with no byte on
it, change nothing (log 1), and the composer's reads are laid out when the first of them is taken (log 18). A byte's bits on the line:
a start bit, the eight data bits from the least significant, the parity bit that makes the ones even or odd, a stop bit (true is the
level of rest). -/
def Obligations.MessageTransmitted : Prop :=
  (∀ (p : Fin 4) (f : Fin 72) (got : List Word) (v : Service) (s : State),
    s.part.path.port = some v → v.last = true → v.owner = .compose p f → v.got = got →
    let b : Block := { s.part with path := { s.part.path with port := none } }
    let bytes := composedBytes s.part.pages.pages[p] p f got
    (s.part.pages.composeAside ≠ 0 → exec .compositionComplete s = .next ⟨s.pending, settle { b with
        pages := { b.pages with composeAside := b.pages.composeAside - 1 } }⟩)
    ∧ (s.part.pages.composeAside = 0 → s.part.link.tx.isSome = true →
      exec .compositionComplete s = .next ⟨s.pending, settle { b with
        pages := { b.pages with composing := false }, link := { b.link with bytes := bytes, next := 0 } }⟩)
    ∧ (s.part.pages.composeAside = 0 → s.part.link.tx = none →
      exec .compositionComplete s = .next ⟨s.pending, settle { b with
        pages := { b.pages with composing := false },
        link := { b.link with
          bytes := bytes, next := 1, tx := some { data := 0x02, parity := b.link.parity, rate := b.link.rate } } }⟩))
  ∧ (∀ s : State,
    let l := s.part.link
    let lastOut := l.st = .sending ∧ l.tx.isSome = true ∧ l.next = 54
    let ended : Block := { s.part with link := { l with st := .awaiting, tx := none, elapsed := 0 } }
    (lastOut → exec .messageEnd s = .next ⟨s.pending, ended⟩ ∧ exec .transmitStopBitEnd s = .next ⟨s.pending, ended⟩)
    ∧ (¬ lastOut → exec .messageEnd s = .next s)
    ∧ (l.tx = none → exec .transmitStopBitEnd s = .next s)
    ∧ (∀ d, l.tx.isSome = true → l.st = .sending → l.next ≠ 54 → l.bytes[l.next]? = some d →
        exec .transmitStopBitEnd s = .next ⟨s.pending, { s.part with
          link := { l with tx := some { data := d, parity := l.parity, rate := l.rate }, next := l.next + 1 } }⟩)
    ∧ (l.tx.isSome = true → (l.st ≠ .sending ∨ (l.next ≠ 54 ∧ l.bytes[l.next]? = none)) →
        exec .transmitStopBitEnd s = .next ⟨s.pending, { s.part with link := { l with tx := none } }⟩)
    ∧ exec .receiveLineReturnToRest s = .next ⟨s.pending, { s.part with link := { l with armed := true } }⟩)
  ∧ (∀ (pg : Page) (p : Fin 4) (f : Fin 72) (got : List Word), 30 ≤ got.length →
    let w (i : Nat) : Nat := (got.getD i 0).toNat
    let lines := got.drop (got.length - 24)
    let x : LabelFields :=
      { ref := got.getD 1 0, roll := pg.roll.toNat, position := f.val + 1, step := w 0 / 256 % 16,
        series := w (got.length - 30) / 256 % 16, day := pg.day.toNat, account := w 2 % 256, copy := w 0 / 4096 }
    let line1 := labelLine x (lines.take 12)
    let line2 := labelLine x (lines.drop 12)
    composedBytes pg p f got = [0x02, BitVec.ofNat 8 p.val, BitVec.ofNat 8 (f.val + 1)] ++ line1 ++ [0x1F] ++ line2
        ++ [BitVec.ofNat 8 (p.val + (f.val + 1) + ((line1 ++ line2).map (·.toNat)).sum), 0x03]
      ∧ line1.length = 24 ∧ line2.length = 24 ∧ (composedBytes pg p f got).length = 54)
  ∧ (∀ (x : LabelFields) (ws : List Word) (c : Byte),
    let d (n place : Nat) : Byte := BitVec.ofNat 8 (0x30 + n / place % 10)
    let high := x.ref.toNat / 256
    let low := x.ref.toNat % 256
    labelLine x ws = (ws.flatMap (fun w => byteText x (w.extractLsb' 0 8) ++ byteText x (w.extractLsb' 8 8))).take 24
    ∧ (0x20 ≤ c.toNat → c.toNat ≤ 0x7E → byteText x c = [c])
    ∧ byteText x 1 = [d high 100, d high 10, d high 1, 0x2D, d low 100, d low 10, d low 1]
    ∧ byteText x 2 = [d x.roll 10000, d x.roll 1000, d x.roll 100, d x.roll 10, d x.roll 1, 0x2F, d x.position 10, d x.position 1]
    ∧ byteText x 3 = (if x.series = 1 then [0x20, 0x20, 0x20] else [d x.step 1, 0x2F, d x.series 1])
    ∧ byteText x 4 = [d x.day 10000, d x.day 1000, d x.day 100, d x.day 10, d x.day 1]
    ∧ byteText x 5 = [d x.account 100, d x.account 10, d x.account 1]
    ∧ byteText x 6 = [d x.copy 1]
    ∧ (c = 0 ∨ (7 ≤ c.toNat ∧ c.toNat ≤ 0x1F) ∨ 0x7F ≤ c.toNat → byteText x c = [0x20]))
  ∧ (∀ t : TxByte,
    let d := (List.range 8).map (fun i => decide (t.data.toNat / 2 ^ i % 2 = 1))
    let ones (l : List Bool) := (l.filter id).length
    (t.parity = .none → t.bits = false :: d ++ [true])
    ∧ (t.parity = .even → ∃ p, t.bits = false :: d ++ [p, true] ∧ ones (d ++ [p]) % 2 = 0)
    ∧ (t.parity = .odd → ∃ p, t.bits = false :: d ++ [p, true] ∧ ones (d ++ [p]) % 2 = 1))
  ∧ (∀ (p : Fin 4) (f : Fin 72) (b : Block),
    let a (g k : Nat) : Nat := windowBase b.path.straps + (0x0A00 + 0x380 * p.val + 0x10 + 12 * g + 2 * k)
    let w (g k : Nat) : Nat := (readWord b.mem (a g k)).toNat
    let follows (g : Nat) := g + 1 < 72 ∧ w g 0 % 256 = w (g + 1) 0 % 256 ∧ w g 0 / 4096 = w (g + 1) 0 / 4096
      ∧ w g 1 = w (g + 1) 1 ∧ w g 0 / 256 % 16 < w (g + 1) 0 / 256 % 16
    let t : Nat := match b.pages.pages[p].frames[f].template with | none => 0 | some t => t.val
    ∃ n, (∀ i, i < n → follows (f.val + i)) ∧ ¬ follows (f.val + n)
      ∧ nextAcc b (.compose p f) = nextAcc b (.words
        ((List.range (n + 1)).flatMap (fun i => (List.range 6).map (fun k => WordAcc.read (a (f.val + i) k)))
          ++ (List.range 24).map (fun k => WordAcc.read (windowBase b.path.straps + (0x0600 + 0x40 * t + 2 * (k + 1)))))))

/-- The reply in AWAITING sets the last reply byte. One with an error stalls GARBLED with its marks set and the frame UNSURE; 0x06
prints the frame and the link goes to IDLE; 0x15 resends below three attempts and stalls REPEATED-REJECT with the frame DUE at
three; 0x10 and 0x11 stall with the frame DUE; any other stalls GARBLED. The reply timeout is the increment of the stand clock at
which the reply limit runs out: it stalls NO-REPLY, the frame UNSURE. A resend counts an attempt and begins the message again; a
stall raises PRINT and then takes pending settings. -/
def Obligations.ReplySettlesFrame : Prop :=
  (∀ (d : Byte) (bit stop : Bool) (p : Fin 4) (f : Fin 72) (s : State),
    s.part.link.st = .awaiting → s.part.link.armed = true → s.part.link.message = some (p, f) →
    let l := s.part.link
    let perr : Bool := match l.parity with
      | .none => false
      | .even => (((List.range 8).filter (fun i => d.getLsbD i)).length % 2 = 1) != bit
      | .odd => (((List.range 8).filter (fun i => d.getLsbD i)).length % 2 = 0) != bit
    let held : Bool := d = 0 ∧ stop = false ∧ (l.parity = .none ∨ bit = false)
    let heard : Link := { l with lastReply := d, armed := !held }
    let b : Block := { s.part with link := heard }
    let tries := s.part.pages.pages[p].frames[f].attempts
    let becomes (st : LabelState) (c : Block) : Block := changeFrame p f (fun fr => { fr with label := st }) c
    let answers (c : Block) := exec (.byteArrival d bit stop) s = .next ⟨s.pending, settle c⟩
    let good := perr = false ∧ stop = true
    (¬ good → answers (stall .garbled (becomes .unsure { b with
        link := { heard with parityError := l.parityError || perr, framingError := l.framingError || !stop } })))
    ∧ (good → d = 0x06 → answers (enterIdle (printFrame p f b)))
    ∧ (good → d = 0x15 → tries < 3 → answers (resend p f b))
    ∧ (good → d = 0x15 → 3 ≤ tries → answers (stall .repeatedReject (becomes .due b)))
    ∧ (good → d = 0x10 → answers (stall .paperOut (becomes .due b)))
    ∧ (good → d = 0x11 → answers (stall .headOpen (becomes .due b)))
    ∧ (good → d ≠ 0x06 → d ≠ 0x15 → d ≠ 0x10 → d ≠ 0x11 → answers (stall .garbled (becomes .unsure b))))
  ∧ (∀ s : State,
    let c := countTick s.part
    let f := s.part.film
    let out := s.part.link.st = .awaiting ∧ s.part.link.replyLimit ≤ s.part.link.elapsed + 1
    let filmOut := (f.st = .leader ∨ f.st = .advancing ∨ f.st = .rewinding) ∧ f.limit ≤ f.elapsed + 1
    (∀ p f, s.part.inReset = false → out → ¬ filmOut → s.part.link.message = some (p, f) →
      let b : Block := stall .noReply (changeFrame p f (fun fr => { fr with label := .unsure }) c)
      exec .replyTimeout s = .next ⟨s.pending, settle b⟩ ∧ exec .standClockIncrement s = .next ⟨s.pending, settle b⟩)
    ∧ (s.part.inReset = false → out → filmOut →
      exec .replyTimeout s = .next ⟨s.pending, settle (replyTimeoutOp (rewindTimeoutOp (advanceTimeoutOp c)))⟩)
    ∧ (s.part.inReset = true ∨ ¬ out → exec .replyTimeout s = .next s))
  ∧ (∀ (p : Fin 4) (f : Fin 72) (b : Block),
      b.link.st = .awaiting → b.link.replyLimit ≤ b.link.elapsed → b.link.message = some (p, f) →
      replyTimeoutOp b = stall .noReply (changeFrame p f (fun fr => { fr with label := .unsure }) b))
  ∧ (∀ (p : Fin 4) (f : Fin 72) (b : Block),
      let c := changeFrame p f (fun fr => { fr with attempts := min 3 (fr.attempts + 1) }) b
      (b.link.tx.isSome = true → resend p f b = { c with link := { c.link with st := .sending, next := 0 } })
      ∧ (∀ d, b.link.tx = none → b.link.bytes[0]? = some d → resend p f b = { c with
          link := { c.link with
            st := .sending, next := 1, tx := some { data := d, parity := c.link.parity, rate := c.link.rate } } }))
  ∧ (∀ (r : StallReason) (b : Block),
      let set : Settings := b.stand.latched
      let stalled : Link := { b.link with st := .stalled, stall := r }
      let taken : Link := { stalled with
        enable := set.printerOn, parity := set.parity, rate := set.rate, replyLimit := set.replyLimit, settingsPending := false }
      let leaves (l : Link) : Block := { b with link := l, stand := { b.stand with flags := b.stand.flags ||| 0x10 } }
      (b.link.settingsPending = false → stall r b = leaves stalled)
      ∧ (b.link.settingsPending = true → set.printerOn = true → stall r b = leaves taken)
      ∧ (b.link.settingsPending = true → set.printerOn = false → stall r b = leaves { taken with
          st := .off, stall := .none, parityError := false, framingError := false, stray := 0, message := none, bytes := [],
          next := 0 }))

/-- A stray byte: in IDLE, SENDING or STALLED it is discarded, the stray count rises by one up to 15, an error sets its mark, and
the last reply byte, the stall reason, every frame and every notice stay. A line held at the start-bit level, an arrival of 0x00 with
its parity and stop bits at that level, disarms the receiver (log 19), and any other arrival leaves it armed; while it is disarmed, in
any state of the link, and in OFF, no byte is heard. -/
def Obligations.StrayByteCounted : Prop :=
  ∀ (d : Byte) (bit stop : Bool) (s : State),
    let l := s.part.link
    let perr : Bool := match l.parity with
      | .none => false
      | .even => (((List.range 8).filter (fun i => d.getLsbD i)).length % 2 = 1) != bit
      | .odd => (((List.range 8).filter (fun i => d.getLsbD i)).length % 2 = 0) != bit
    let held : Bool := d = 0 ∧ stop = false ∧ (l.parity = .none ∨ bit = false)
    (l.st = .idle ∨ l.st = .sending ∨ l.st = .stalled → l.armed = true →
      exec (.byteArrival d bit stop) s = .next ⟨s.pending, settle { s.part with
        link := { l with
          stray := min 15 (l.stray + 1), parityError := l.parityError || perr, framingError := l.framingError || !stop,
          armed := !held } }⟩)
    ∧ (l.st = .off ∨ l.armed = false → exec (.byteArrival d bit stop) s = .next ⟨s.pending, settle s.part⟩)

/-- RESUME, outside STALLED, changes nothing; in STALLED it clears the stall, the marks and the stray count, sets to 0 the attempts
of the head page's DUE frames, the write of each one's label word issued in ascending frame order, and enters IDLE. A soft reset acts
on a link that is not OFF: a message SENDING or AWAITING is dropped, its frame UNSURE, the stall cleared, IDLE entered. Entering IDLE
clears the message, takes pending settings, then selects. -/
def Obligations.LinkResumesAndResets : Prop :=
  (∀ s : State, s.part.reached →
    let cleared : Link := { s.part.link with stall := .none, parityError := false, framingError := false, stray := 0 }
    let b : Block := { s.part with link := cleared }
    (s.part.link.st ≠ .stalled → exec .resume s = .next ⟨s.pending, settle s.part⟩)
    ∧ (s.part.link.st = .stalled → s.part.pages.printQueue = [] → exec .resume s = .next ⟨s.pending, settle (enterIdle b)⟩)
    ∧ (∀ p tail, s.part.link.st = .stalled → s.part.pages.printQueue = p :: tail →
        let label (f : Fin 72) : Option WordSet := if b.pages.pages[p].frames[f].label = .due then
            some ⟨.pageWrites, .words [.write (windowBase b.path.straps + (0x0A00 + 0x380 * p.val + 0x10 + 12 * f.val + 6))
              (BitVec.ofNat 16 (1 + (match b.pages.pages[p].frames[f].template with | none => 31 | some t => t.val) * 256))], []⟩
          else none
        ∃ c, exec .resume s = .next ⟨s.pending, settle (enterIdle c)⟩ ∧ c.link = cleared
          ∧ c.path = { b.path with partList := b.path.partList ++ (List.finRange 72).filterMap label }
          ∧ (∀ f : Fin 72, c.pages.pages[p].frames[f] = (if b.pages.pages[p].frames[f].label = .due then
              { b.pages.pages[p].frames[f] with attempts := 0 } else b.pages.pages[p].frames[f]))
          ∧ (∀ q : Fin 4, q ≠ p → c.pages.pages[q] = b.pages.pages[q]) ∧ c.pages.printQueue = b.pages.printQueue
          ∧ c.charges = b.charges ∧ c.gate = b.gate ∧ c.film = b.film ∧ c.stand = b.stand ∧ c.mem = b.mem))
  ∧ (∀ b : Block,
    let cleared (c : Block) : Block := { c with
      link := { c.link with stall := .none, parityError := false, framingError := false, stray := 0 } }
    (b.link.st = .off → linkReset b = b)
    ∧ (b.link.st = .idle ∨ b.link.st = .stalled → linkReset b = enterIdle (cleared b))
    ∧ (∀ p f, b.link.st = .sending ∨ b.link.st = .awaiting → b.link.message = some (p, f) → b.pages.composing = false →
        linkReset b = enterIdle (cleared (changeFrame p f (fun fr => { fr with label := .unsure }) b)))
    ∧ (∀ p f, b.link.st = .sending ∨ b.link.st = .awaiting → b.link.message = some (p, f) → b.pages.composing = true →
        let c := changeFrame p f (fun fr => { fr with label := .unsure }) b
        linkReset b = enterIdle (cleared { c with
          pages := { c.pages with composing := false, composeAside := c.pages.composeAside + 1 } })))
  ∧ (∀ b : Block,
    let c : Block := { b with link := { b.link with st := .idle, message := none, bytes := [], next := 0 } }
    let st : Settings := b.stand.latched
    let taken : Link := { c.link with
      enable := st.printerOn, parity := st.parity, rate := st.rate, replyLimit := st.replyLimit, settingsPending := false }
    (b.link.settingsPending = false → enterIdle b = selectFrame c)
    ∧ (b.link.settingsPending = true → st.printerOn = true → enterIdle b = selectFrame { c with link := taken })
    ∧ (b.link.settingsPending = true → st.printerOn = false → enterIdle b = { c with
        link := { taken with st := .off, stall := .none, parityError := false, framingError := false, stray := 0 } }))

/-! ## Stand Control, stored writes and resets -/

/-- RUN and HOLD. RUN in HELD with no fill running latches the copy of the settings record when every field is valid, the stand
RUNNING, the link taking its settings at once or when it is next free; else it is refused at the first invalid field's word, which
the status shows. It is refused at the stand word while a fill runs, and in HOLDING under a soft reset; HOLDING else goes back to
RUNNING. HOLD in RUNNING goes to HELD with STAND raised when the gate is EMPTY or DONE, else to HOLDING. Each setting is read from its
word of the record, by its encoding; a step's price is the primary price for step 1 and the bracket price for the others. -/
def Obligations.RunAndHoldTaken : Prop :=
  (∀ s : State, s.part.reached →
    let d := s.part.stand
    let copy : Settings := d.copy
    let base := windowBase s.part.path.straps
    let latched : Block := { s.part with stand := { d with status := none, latched := copy, st := .running } }
    let taken : Link := { s.part.link with
      enable := copy.printerOn, parity := copy.parity, rate := copy.rate, replyLimit := copy.replyLimit, settingsPending := false }
    let busy := s.part.link.st = .sending ∨ s.part.link.st = .awaiting
    let quiet := s.part.gate.st = .empty ∨ s.part.gate.st = .done
    let valid := ∀ i, copy.fieldValid i = true
    let answers (c : Instr) (b : Block) := exec c s = .next ⟨s.pending, settle b⟩
    let latches := d.st = .held ∧ s.part.nv.fill ≠ .filling ∧ valid
    (latches → busy → answers .run { latched with link := { s.part.link with settingsPending := true } })
    ∧ (latches → ¬ busy → copy.printerOn = true → answers .run (selectFrame { latched with
        link := { taken with st := if s.part.link.st = .off then .idle else s.part.link.st } }))
    ∧ (latches → ¬ busy → copy.printerOn = false → answers .run { latched with
        link := { taken with
          st := .off, stall := .none, parityError := false, framingError := false, stray := 0, message := none, bytes := [],
          next := 0 } })
    ∧ (∀ i, d.st = .held → s.part.nv.fill ≠ .filling → copy.fieldValid i = false → (∀ j, j < i → copy.fieldValid j = true) →
        answers .run (refuse (base + (0x0080 + 2 * i.val)) { s.part with stand := { d with status := some i } }))
    ∧ (d.st = .held → s.part.nv.fill = .filling → answers .run (refuse base s.part))
    ∧ (d.st = .holding → d.softReset = true → answers .run (refuse base s.part))
    ∧ (d.st = .holding → d.softReset = false → answers .run { s.part with stand := { d with st := .running } })
    ∧ (d.st = .running → answers .run s.part)
    ∧ (d.st = .running → quiet → answers .hold { s.part with stand := { d with st := .held, flags := d.flags ||| 0x80 } })
    ∧ (d.st = .running → ¬ quiet → answers .hold { s.part with stand := { d with st := .holding } })
    ∧ (d.st ≠ .running → answers .hold s.part))
  ∧ (∀ x : Settings, (∀ i, x.fieldValid i = true) ↔
      x[0].toNat ≤ 1 ∧ (-16 ≤ x[1].toInt ∧ x[1].toInt ≤ 16) ∧ x[2].toNat ≤ 1023 ∧ (x[2].toNat < x[3].toNat ∧ x[3].toNat ≤ 1023)
        ∧ (4 ≤ x[4].toNat ∧ x[4].toNat ≤ 16) ∧ x[5].toNat ≤ 4 ∧ (10 ≤ x[6].toNat ∧ x[6].toNat ≤ 200)
        ∧ (100 ≤ x[7].toNat ∧ x[7].toNat ≤ 6000) ∧ (∀ i : Fin 32, 8 ≤ i.val → i.val ≤ 15 → x[i].toNat ≤ 9999)
        ∧ x[16].toNat ≤ 1 ∧ x[17].toNat ≤ 2 ∧ x[18].toNat ≤ 3 ∧ (10 ≤ x[19].toNat ∧ x[19].toNat ≤ 255))
  ∧ (∀ x : Settings,
      (x.byPriority = true ↔ x[0] = 0) ∧ x.calibration = x[1].toInt ∧ x.dark = x[2].toNat ∧ x.bright = x[3].toNat
      ∧ x.pulses = x[4].toNat ∧ x.leader = x[5].toNat ∧ x.advanceLimit = x[6].toNat ∧ x.rewindLimit = x[7].toNat
      ∧ [0, 1, 2, 3].map x.primary = [x[8].toNat, x[10].toNat, x[12].toNat, x[14].toNat]
      ∧ [0, 1, 2, 3].map x.bracket = [x[9].toNat, x[11].toNat, x[13].toNat, x[15].toNat]
      ∧ (∀ (k : Fin 4) (step : Nat), x.stepPrice k step = if step = 1 then x.primary k else x.bracket k)
      ∧ (x.printerOn = true ↔ x[16] = 1)
      ∧ (x[17] = 0 → x.parity = .none) ∧ (x[17] = 1 → x.parity = .even) ∧ (x[17] = 2 → x.parity = .odd)
      ∧ (x[18].toNat ≤ 3 → x.rate.val = x[18].toNat) ∧ x.replyLimit = x[19].toNat)

/-- The writes carried to memory: plain and exposure table words, scheme words, the day word, order words 9-15, template words
25-31, template line words while the use count is 0 and settings words while the stand is HELD. With the port free the word is
stored in the access and its owner's copy follows; with the port busy the access waits and no byte changes. A guarded write whose
condition fails is refused with the port free, and with the port busy waits and is judged as the port takes it (log 13); a write to
a template's use count is dropped. -/
def Obligations.MemoryWritesStored : Prop :=
  ∀ (v : Word) (s : State), s.part.reached → MemoryCanonical s →
    let base := windowBase s.part.path.straps
    let template (t : Fin 16) (w : Fin 32) : Nat := base + (0x0600 + 0x40 * t.val + 2 * w.val)
    let stores (c : Instr) (a : Nat) (copied : Block → Prop) : Prop :=
      ∃ b, exec c s = .next ⟨s.pending, b⟩ ∧ keptAtEventEnd s.part b ∧ b.path.bus = .memory (.write a v)
        ∧ (∀ x, ¬ inWord a x → Memory.get b.mem x = Memory.get s.part.mem x)
        ∧ (s.part.path.port = none → readWord b.mem a = v ∧ copied b)
        ∧ (s.part.path.port.isSome = true → b.mem = s.part.mem ∧ b.path.port = s.part.path.port
            ∧ b.path.ctlWait = some ⟨.controller, .words [.write a v], []⟩)
    let guarded (c : Instr) (a : Nat) : Prop :=
      (s.part.path.port = none → exec c s = .next ⟨s.pending, settle (refuse a s.part)⟩)
      ∧ (s.part.path.port.isSome = true → exec c s = .next ⟨s.pending, settle { s.part with path := { s.part.path with
          bus := .memory (.write a v), ctlWait := some ⟨.controller, .words [.write a v], []⟩ } }⟩)
    (∀ m w, stores (.schemeWrite m w v) (base + (0x0180 + 0x10 * m.val + 2 * w.val)) (fun b =>
        b.expo.schemes = s.part.expo.schemes.set m (s.part.expo.schemes[m].set w v)))
    ∧ stores (.dayWordWrite v) (base + 12) (fun b => b.stand.day = v)
    ∧ (∀ w, s.part.stand.st = .held → stores (.settingsRecordWrite w v) (base + (0x0080 + 2 * w.val)) (fun b =>
        b.stand.copy = s.part.stand.copy.set w v ∧ b.stand.latched = s.part.stand.latched))
    ∧ (∀ w, s.part.stand.st ≠ .held → guarded (.settingsRecordWrite w v) (base + (0x0080 + 2 * w.val)))
    ∧ (∀ t w, 1 ≤ w.val → w.val ≤ 24 → s.part.pages.useCount[t] = 0 →
        stores (.templateLineWrite t w v) (template t w) (fun _ => True))
    ∧ (∀ t w, 1 ≤ w.val → w.val ≤ 24 → s.part.pages.useCount[t] ≠ 0 → guarded (.templateLineWrite t w v) (template t w))
    ∧ (∀ t w, 25 ≤ w.val → stores (.controllerMemoryAccess (.write (template t w) v)) (template t w) (fun _ => True))
    ∧ (∀ t, exec (.controllerMemoryAccess (.write (template t 0) v)) s = .next ⟨s.pending, settle s.part⟩)
    ∧ (∀ (n : Fin 24) (k : Fin 16), 9 ≤ k.val →
        stores (.controllerMemoryAccess (.write (base + (0x0200 + 0x20 * n.val + 2 * k.val)) v))
          (base + (0x0200 + 0x20 * n.val + 2 * k.val)) (fun b => ∀ m, b.shadow m = s.part.shadow m))
    ∧ (∀ i : Fin 64, stores (.controllerMemoryAccess (.write (base + (0x0100 + 2 * i.val)) v)) (base + (0x0100 + 2 * i.val))
        (fun _ => True))
    ∧ (∀ a, decodeAddr s.part.path.straps a = .plain a → stores (.controllerMemoryAccess (.write a v)) a (fun _ => True))

/-- The memory port's completions and the controller's reads. A read of a word in RAM, plain, watched, guarded or owned, is served
with the word as memory holds it when the port is free, waits when it is busy, and returns its word as it completes; a write
completes the access; an access that is not its set's last only frees the port. Above the NV store a read returns 0xFFFF and a
write is dropped, neither using the port. The last initialisation write makes the stand HELD with STAND raised, and a held access is
taken. A read of a live word answers in the access from its owner: the stand block word by word, the gate list view, a template's
use count, a page's frames awaiting label and its command word. -/
def Obligations.MemoryAccessCompletes : Prop :=
  (∀ (a : Nat) (s : State), s.part.reached → (match decodeAddr s.part.path.straps a with
      | .plain _ | .settings _ | .exposure _ | .scheme _ _ | .frame _ _ _ => True
      | .stand w => w.val = 6
      | .order _ k => k.val ≠ 0
      | .template _ k => k.val ≠ 0
      | .header _ k => k.val ≤ 5
      | _ => False) →
    (s.part.path.port = none →
      ∃ b v, exec (.controllerMemoryAccess (.read a)) s = .next ⟨s.pending, b⟩ ∧ b.path.port = some v ∧ v.owner = .controller
        ∧ v.last = true ∧ v.got = [readWord s.part.mem a] ∧ b.path.bus = .memory (.read a) ∧ b.mem = s.part.mem
        ∧ keptAtEventEnd s.part b)
    ∧ (s.part.path.port.isSome = true →
      exec (.controllerMemoryAccess (.read a)) s = .next ⟨s.pending, settle { s.part with path := { s.part.path with
        bus := .memory (.read a), ctlWait := some ⟨.controller, .words [.read (a / 2 * 2)], []⟩ } }⟩))
  ∧ (∀ (v : Service) (s : State), s.part.path.port = some v →
    let p := s.part.path
    (∀ a w, v.last = true → v.owner = .controller → p.bus = .memory (.read a) → v.got = [w] →
      exec .memoryAccessComplete s = .next ⟨s.pending, settle { s.part with
        path := { p with port := none, bus := .idle, readData := w } }⟩)
    ∧ (∀ a w, v.last = true → v.owner = .controller → p.bus = .memory (.write a w) →
      exec .memoryAccessComplete s = .next ⟨s.pending, settle { s.part with path := { p with port := none, bus := .idle } }⟩)
    ∧ (v.last = false ∨ v.owner = .pageWrites →
      exec .memoryAccessComplete s = .next ⟨s.pending, settle { s.part with path := { p with port := none } }⟩)
    ∧ (v.last = true → v.owner = .windowInit → s.part.inReset = false →
      let b : Block := { s.part with
        path := { p with port := none, bus := .idle },
        stand := { s.part.stand with st := .held, flags := s.part.stand.flags ||| 0x80 } }
      (p.bus = .idle → exec .windowInitialisationEnd s = .next ⟨s.pending, settle b⟩)
      ∧ (∀ a, p.bus = .held a → exec .windowInitialisationEnd s = .next ⟨s.pending, settle (takeAccess a b)⟩)))
  ∧ (∀ (a : Nat) (v : Word) (s : State), s.part.path.bus = .idle → s.part.inReset = false → 0x22000 ≤ a →
    exec (.controllerMemoryAccess (.read a)) s = .next ⟨s.pending, settle { s.part with
      path := { s.part.path with readData := 0xFFFF } }⟩
    ∧ exec (.controllerMemoryAccess (.write a v)) s = .next ⟨s.pending, settle s.part⟩)
  ∧ (∀ s : State, s.part.awake →
    let b := s.part
    let o := b.gate.outcome
    let l := b.link
    let bit (x : Bool) : Nat := if x then 1 else 0
    let num (n : Nat) : Word := BitVec.ofNat 16 n
    let reads (offset : Nat) (x : Word) := exec (.controllerMemoryAccess (.read (windowBase b.path.straps + offset))) s
      = .next ⟨s.pending, settle { b with path := { b.path with readData := x } }⟩
    reads 0 (num (b.stand.st.code + bit b.stand.softReset * 4 + (match b.stand.status with | none => 255 | some i => i.val) * 256))
    ∧ reads 2 (num b.stand.flags.toNat) ∧ reads 4 b.stand.levels ∧ reads 8 b.path.refusedStage ∧ reads 14 b.gate.staged
    ∧ reads 16 (num (b.gate.st.code + bit b.gate.withdrawPending * 8 + bit b.gate.resetPending * 16))
    ∧ reads 18 o.ref ∧ reads 20 (num o.reading.toNat) ∧ reads 22 (num o.density) ∧ reads 24 (num o.code.code)
    ∧ reads 26 (num o.served) ∧ reads 28 (num o.rollShort) ∧ reads 30 (num o.fundsShort) ∧ reads 32 (num o.accountFault)
    ∧ reads 34 (num o.accountStopped) ∧ reads 36 (num o.listFull) ∧ reads 38 (num o.dropped) ∧ reads 40 (num o.exposed)
    ∧ reads 42 (num o.uncalibrated)
    ∧ reads 44 (num (b.film.st.code + b.film.lastCommand.code * 8 + bit b.film.running * 32
        + (match b.film.page with | none => 7 | some p => p.val) * 64 + b.film.interrupted.code * 512 + b.film.pulses * 2048))
    ∧ reads 46 (num (b.film.used + b.film.length * 256))
    ∧ reads 48 (num (l.st.code + l.stall.code * 8 + bit l.parityError * 64 + bit l.framingError * 128 + l.stray * 256
        + bit l.settingsPending * 4096 + (match l.message with | none => 0 | some m => m.1.val) * 8192))
    ∧ reads 50 (num (l.lastReply.toNat + (match l.message with | none => 0 | some m => m.2.val + 1) * 256))
    ∧ reads 52 (num (bit b.nv.gateOpen + (if b.nv.fill = .filling then 3 else b.nv.phase.code) * 4
        + b.charges.queue.length * 256))
    ∧ reads 54 (num (b.nv.fill.code + b.nv.progress * 256))
    ∧ reads 56 (b.nv.opening.extractLsb' 0 16) ∧ reads 58 (b.nv.opening.extractLsb' 16 16) ∧ reads 62 b.charges.readStage
    ∧ reads 64 (match b.charges.lastFaulted with | none => 0xFFFF | some a => num a.val)
    ∧ (∀ i, 33 ≤ i → i < 64 → reads (2 * i) 0)
    ∧ (∀ k : Fin 8, match b.gate.list[k.val]? with
        | none => reads (0x0500 + 8 * k.val) 0x00FF ∧ reads (0x0502 + 8 * k.val) 0 ∧ reads (0x0504 + 8 * k.val) 0
            ∧ reads (0x0506 + 8 * k.val) 0
        | some e => reads (0x0500 + 8 * k.val)
              (num (e.slot.val + e.st.code * 256 + bit e.deactivated * 2048 + e.reason.code * 4096))
            ∧ reads (0x0502 + 8 * k.val) (num (e.planned + e.exposed * 256)) ∧ reads (0x0504 + 8 * k.val) (num e.hold)
            ∧ reads (0x0506 + 8 * k.val) (num (e.hold / 65536 % 16 + e.skipped * 256)))
    ∧ (∀ t : Fin 16, reads (0x0600 + 0x40 * t.val) (num b.pages.useCount[t]))
    ∧ (∀ p : Fin 4, reads (0x0A0C + 0x380 * p.val) (num (((List.finRange 72).filter (fun f =>
          decide (b.pages.pages[p].frames[f].label = .due ∨ b.pages.pages[p].frames[f].label = .sent
            ∨ b.pages.pages[p].frames[f].label = .unsure))).length))
        ∧ reads (0x0A0E + 0x380 * p.val) 0))
  ∧ ([StandState.starting, .held, .running, .holding].map StandState.code = [0, 1, 2, 3]
    ∧ [GateState.empty, .metering, .planning, .serving, .done].map GateState.code = [0, 1, 2, 3, 4]
    ∧ [OutcomeCode.noneYet, .served, .noneServed, .noMatch, .dark, .bright, .notReady, .aborted, .jammed, .reset].map
        OutcomeCode.code = [0, 1, 2, 3, 4, 5, 6, 7, 8, 9]
    ∧ [FilmState.empty, .leader, .ready, .exposing, .advancing, .ended, .jammed, .rewinding].map FilmState.code
        = [0, 1, 2, 3, 4, 5, 6, 7]
    ∧ [FilmCommand.none, .load, .unload, .retry].map FilmCommand.code = [0, 1, 2, 3]
    ∧ [Motion.none, .leaderAdvance, .frameAdvance, .rewind].map Motion.code = [0, 1, 2, 3]
    ∧ [LinkState.off, .idle, .sending, .awaiting, .stalled].map LinkState.code = [0, 1, 2, 3, 4]
    ∧ [StallReason.none, .repeatedReject, .paperOut, .headOpen, .garbled, .noReply].map StallReason.code = [0, 1, 2, 3, 4, 5]
    ∧ [NvPhase.idle, .reading, .writing].map NvPhase.code = [0, 1, 2]
    ∧ [FillState.idle, .filling, .done, .stopped].map FillState.code = [0, 1, 2, 3]
    ∧ [EntryState.candidate, .planned, .active, .served, .skipped, .dropped, .cancelled].map EntryState.code
        = [0, 1, 2, 3, 4, 5, 6]
    ∧ [Reason.none, .jam, .aborted, .reset, .badSetup, .rollShort, .fundsShort, .accountFault, .accountStopped, .listFull].map
        Reason.code = [0, 1, 2, 3, 4, 5, 6, 7, 8, 9]
    ∧ [OrderCode.idle, .opened, .serving, .filled, .halted].map OrderCode.code = [0, 1, 2, 3, 4]
    ∧ [PageState.free, .current, .exposed, .returned, .discarding].map PageState.code = [0, 1, 2, 3, 4]
    ∧ [LabelState.none, .due, .sent, .printed, .unsure, .spoiled].map LabelState.code = [0, 1, 2, 3, 4, 5])

/-- Power-on, the reset pin and supply-low: every block takes its start values; the controller's access in service runs to its
completion and any other access on the bus is held (log 23); at power-on, at the pin's release and at the supply's return the straps
are read, the window initialisation is issued and a held access outside the window is taken, unless the other input still holds the
part. A failed supply also loses RAM and may tear the running write cycle (its words are free values, log 8), while without one both
memories and the cycle stand. Supply-low closes the gate and keeps until power-on the posting queue, the unposted total with its
halves, the last faulted account, a fill in progress and the refused address (log 20). The model's own: a release of the pin that is
not asserted, and a return of the supply that is not low, change nothing (log 1); a controller access that is in service as the supply
fails is held and taken again (log 8); so is a controller NV write at any reset, whose word access in service ends for nobody
(log 23). -/
def Obligations.ResetsTakeStartValues : Prop :=
  ∀ s : State,
    let serves (p : Path) (o : Owner) : Bool := p.port.any (fun v => decide (v.owner = o))
    let bus (p : Path) : Bus := match p.bus with
      | .idle => .idle
      | .held a => .held a
      | .memory a => if serves p .controller then .memory a else .held a
      | .nvWait a => .held a
      | .nvTaken a => if serves p .ctlNvRead then .nvTaken a else .held a
    let owner (o : Owner) : Owner := if o = .controller ∨ o = .ctlNvRead then o else .lost
    let path0 (p : Path) (l : List WordSet) (st : BitVec 2) : Path :=
      ⟨st, 0, 0, p.port.map (fun v => { v with owner := owner v.owner }), bus p, none, l, p.readData⟩
    let quiet (b : Block) : Block := { b with
      orders := Orders.start, gate := Gate.start, expo := Exposure.start, film := Film.start b.film.switchClosed,
      pages := Pages.start, charges := Charges.start, nv := Nv.start, link := Link.start, stand := Stand.start,
      path := path0 b.path [] b.path.straps }
    let released (b : Block) : Block := match b.path.bus with
      | .held a => if inWindow b.path.straps (evenAddr a.addr) then b
          else takeAccess a { b with path := { b.path with bus := .idle } }
      | _ => b
    let started (st : BitVec 2) (b : Block) : Block := released { quiet b with
      path := path0 b.path [{ owner := .windowInit, work := .init 0, got := [] }] st }
    let up : Block := { s.part with supplyLow := false }
    let lost (torn : List (Nat × Word)) : Block := { up with
      mem := torn.foldl (fun m x => writeWord m x.1 x.2) (s.part.mem.filter (fun c => 0x20000 ≤ c.1)), nvCycle := none,
      path := { up.path with port := none }, freeCount := s.part.freeCount + torn.length }
    let tears (torn : List (Nat × Word)) := torn.map (·.1) = (s.part.nvCycle.getD []).map (·.1)
    let answers (c : Instr) (b : Block) := exec c s = .next ⟨s.pending, settle b⟩
    exec .resetPinAssert s = .next ⟨s.pending, quiet { s.part with resetPin := true }⟩
    ∧ (∀ st, s.part.resetPin = false → answers (.powerOn st false) (started st up))
    ∧ (∀ st, s.part.resetPin = true → answers (.powerOn st false) (quiet up))
    ∧ (∀ st, s.part.resetPin = false → s.part.supplyLow = true → answers (.supplyGood st false) (started st up))
    ∧ (∀ st, s.part.resetPin = true → s.part.supplyLow = true → answers (.supplyGood st false) (quiet up))
    ∧ (∀ st f, s.part.supplyLow = false → answers (.supplyGood st f) s.part)
    ∧ (∀ st, s.part.resetPin = true → s.part.supplyLow = false →
        answers (.resetPinRelease st) (started st { s.part with resetPin := false }))
    ∧ (∀ st, s.part.resetPin = true → s.part.supplyLow = true →
        answers (.resetPinRelease st) (quiet { s.part with resetPin := false }))
    ∧ (∀ st, s.part.resetPin = false → answers (.resetPinRelease st) s.part)
    ∧ (∃ torn, tears torn
        ∧ (∀ st, s.part.resetPin = false → answers (.powerOn st true) (started st (lost torn)))
        ∧ (∀ st, s.part.resetPin = true → answers (.powerOn st true) (quiet (lost torn)))
        ∧ (∀ st, s.part.resetPin = false → s.part.supplyLow = true → answers (.supplyGood st true) (started st (lost torn)))
        ∧ (∀ st, s.part.resetPin = true → s.part.supplyLow = true → answers (.supplyGood st true) (quiet (lost torn))))
    ∧ (let low := quiet { s.part with supplyLow := true }
      (s.part.resetPin = true → exec .supplyLow s = .next ⟨s.pending, low⟩)
      ∧ (s.part.resetPin = false → exec .supplyLow s = .next ⟨s.pending, { low with
          charges := { s.part.charges with reserved := 0, applying := false },
          nv := (if s.part.nv.fill = .filling then { Nv.start with fill := .filling, progress := s.part.nv.progress } else Nv.start),
          path := { low.path with refusedAddr := s.part.path.refusedAddr, refusedStage := s.part.path.refusedStage } }⟩)
      ∧ low.attention = 0 ∧ low.nvFree = false)
end

