-- ==== Sys2Proof/Laws/State.lean ====
section
/-! SUPPORT. One lemma for each field under each update of Block. -/

namespace Sys2Proof.Machine

variable (b : Block)

/-! ### setOrders -/

@[simp] theorem setOrders_orders (x : Orders) : (b.setOrders x).orders = x := rfl
@[simp] theorem setOrders_gate (x : Orders) : (b.setOrders x).gate = b.gate := rfl
@[simp] theorem setOrders_expo (x : Orders) : (b.setOrders x).expo = b.expo := rfl
@[simp] theorem setOrders_film (x : Orders) : (b.setOrders x).film = b.film := rfl
@[simp] theorem setOrders_pages (x : Orders) : (b.setOrders x).pages = b.pages := rfl
@[simp] theorem setOrders_charges (x : Orders) : (b.setOrders x).charges = b.charges := rfl
@[simp] theorem setOrders_nv (x : Orders) : (b.setOrders x).nv = b.nv := rfl
@[simp] theorem setOrders_link (x : Orders) : (b.setOrders x).link = b.link := rfl
@[simp] theorem setOrders_path (x : Orders) : (b.setOrders x).path = b.path := rfl
@[simp] theorem setOrders_stand (x : Orders) : (b.setOrders x).stand = b.stand := rfl
@[simp] theorem setOrders_mem (x : Orders) : (b.setOrders x).mem = b.mem := rfl
@[simp] theorem setOrders_nvCycle (x : Orders) : (b.setOrders x).nvCycle = b.nvCycle := rfl
@[simp] theorem setOrders_resetPin (x : Orders) : (b.setOrders x).resetPin = b.resetPin := rfl
@[simp] theorem setOrders_supplyLow (x : Orders) : (b.setOrders x).supplyLow = b.supplyLow := rfl
@[simp] theorem setOrders_freeCount (x : Orders) : (b.setOrders x).freeCount = b.freeCount := rfl

/-! ### setGate -/

@[simp] theorem setGate_orders (x : Gate) : (b.setGate x).orders = b.orders := rfl
@[simp] theorem setGate_gate (x : Gate) : (b.setGate x).gate = x := rfl
@[simp] theorem setGate_expo (x : Gate) : (b.setGate x).expo = b.expo := rfl
@[simp] theorem setGate_film (x : Gate) : (b.setGate x).film = b.film := rfl
@[simp] theorem setGate_pages (x : Gate) : (b.setGate x).pages = b.pages := rfl
@[simp] theorem setGate_charges (x : Gate) : (b.setGate x).charges = b.charges := rfl
@[simp] theorem setGate_nv (x : Gate) : (b.setGate x).nv = b.nv := rfl
@[simp] theorem setGate_link (x : Gate) : (b.setGate x).link = b.link := rfl
@[simp] theorem setGate_path (x : Gate) : (b.setGate x).path = b.path := rfl
@[simp] theorem setGate_stand (x : Gate) : (b.setGate x).stand = b.stand := rfl
@[simp] theorem setGate_mem (x : Gate) : (b.setGate x).mem = b.mem := rfl
@[simp] theorem setGate_nvCycle (x : Gate) : (b.setGate x).nvCycle = b.nvCycle := rfl
@[simp] theorem setGate_resetPin (x : Gate) : (b.setGate x).resetPin = b.resetPin := rfl
@[simp] theorem setGate_supplyLow (x : Gate) : (b.setGate x).supplyLow = b.supplyLow := rfl
@[simp] theorem setGate_freeCount (x : Gate) : (b.setGate x).freeCount = b.freeCount := rfl

/-! ### setExpo -/

@[simp] theorem setExpo_orders (x : Exposure) : (b.setExpo x).orders = b.orders := rfl
@[simp] theorem setExpo_gate (x : Exposure) : (b.setExpo x).gate = b.gate := rfl
@[simp] theorem setExpo_expo (x : Exposure) : (b.setExpo x).expo = x := rfl
@[simp] theorem setExpo_film (x : Exposure) : (b.setExpo x).film = b.film := rfl
@[simp] theorem setExpo_pages (x : Exposure) : (b.setExpo x).pages = b.pages := rfl
@[simp] theorem setExpo_charges (x : Exposure) : (b.setExpo x).charges = b.charges := rfl
@[simp] theorem setExpo_nv (x : Exposure) : (b.setExpo x).nv = b.nv := rfl
@[simp] theorem setExpo_link (x : Exposure) : (b.setExpo x).link = b.link := rfl
@[simp] theorem setExpo_path (x : Exposure) : (b.setExpo x).path = b.path := rfl
@[simp] theorem setExpo_stand (x : Exposure) : (b.setExpo x).stand = b.stand := rfl
@[simp] theorem setExpo_mem (x : Exposure) : (b.setExpo x).mem = b.mem := rfl
@[simp] theorem setExpo_nvCycle (x : Exposure) : (b.setExpo x).nvCycle = b.nvCycle := rfl
@[simp] theorem setExpo_resetPin (x : Exposure) : (b.setExpo x).resetPin = b.resetPin := rfl
@[simp] theorem setExpo_supplyLow (x : Exposure) : (b.setExpo x).supplyLow = b.supplyLow := rfl
@[simp] theorem setExpo_freeCount (x : Exposure) : (b.setExpo x).freeCount = b.freeCount := rfl

/-! ### setFilm -/

@[simp] theorem setFilm_orders (x : Film) : (b.setFilm x).orders = b.orders := rfl
@[simp] theorem setFilm_gate (x : Film) : (b.setFilm x).gate = b.gate := rfl
@[simp] theorem setFilm_expo (x : Film) : (b.setFilm x).expo = b.expo := rfl
@[simp] theorem setFilm_film (x : Film) : (b.setFilm x).film = x := rfl
@[simp] theorem setFilm_pages (x : Film) : (b.setFilm x).pages = b.pages := rfl
@[simp] theorem setFilm_charges (x : Film) : (b.setFilm x).charges = b.charges := rfl
@[simp] theorem setFilm_nv (x : Film) : (b.setFilm x).nv = b.nv := rfl
@[simp] theorem setFilm_link (x : Film) : (b.setFilm x).link = b.link := rfl
@[simp] theorem setFilm_path (x : Film) : (b.setFilm x).path = b.path := rfl
@[simp] theorem setFilm_stand (x : Film) : (b.setFilm x).stand = b.stand := rfl
@[simp] theorem setFilm_mem (x : Film) : (b.setFilm x).mem = b.mem := rfl
@[simp] theorem setFilm_nvCycle (x : Film) : (b.setFilm x).nvCycle = b.nvCycle := rfl
@[simp] theorem setFilm_resetPin (x : Film) : (b.setFilm x).resetPin = b.resetPin := rfl
@[simp] theorem setFilm_supplyLow (x : Film) : (b.setFilm x).supplyLow = b.supplyLow := rfl
@[simp] theorem setFilm_freeCount (x : Film) : (b.setFilm x).freeCount = b.freeCount := rfl

/-! ### setPages -/

@[simp] theorem setPages_orders (x : Pages) : (b.setPages x).orders = b.orders := rfl
@[simp] theorem setPages_gate (x : Pages) : (b.setPages x).gate = b.gate := rfl
@[simp] theorem setPages_expo (x : Pages) : (b.setPages x).expo = b.expo := rfl
@[simp] theorem setPages_film (x : Pages) : (b.setPages x).film = b.film := rfl
@[simp] theorem setPages_pages (x : Pages) : (b.setPages x).pages = x := rfl
@[simp] theorem setPages_charges (x : Pages) : (b.setPages x).charges = b.charges := rfl
@[simp] theorem setPages_nv (x : Pages) : (b.setPages x).nv = b.nv := rfl
@[simp] theorem setPages_link (x : Pages) : (b.setPages x).link = b.link := rfl
@[simp] theorem setPages_path (x : Pages) : (b.setPages x).path = b.path := rfl
@[simp] theorem setPages_stand (x : Pages) : (b.setPages x).stand = b.stand := rfl
@[simp] theorem setPages_mem (x : Pages) : (b.setPages x).mem = b.mem := rfl
@[simp] theorem setPages_nvCycle (x : Pages) : (b.setPages x).nvCycle = b.nvCycle := rfl
@[simp] theorem setPages_resetPin (x : Pages) : (b.setPages x).resetPin = b.resetPin := rfl
@[simp] theorem setPages_supplyLow (x : Pages) : (b.setPages x).supplyLow = b.supplyLow := rfl
@[simp] theorem setPages_freeCount (x : Pages) : (b.setPages x).freeCount = b.freeCount := rfl

/-! ### setCharges -/

@[simp] theorem setCharges_orders (x : Charges) : (b.setCharges x).orders = b.orders := rfl
@[simp] theorem setCharges_gate (x : Charges) : (b.setCharges x).gate = b.gate := rfl
@[simp] theorem setCharges_expo (x : Charges) : (b.setCharges x).expo = b.expo := rfl
@[simp] theorem setCharges_film (x : Charges) : (b.setCharges x).film = b.film := rfl
@[simp] theorem setCharges_pages (x : Charges) : (b.setCharges x).pages = b.pages := rfl
@[simp] theorem setCharges_charges (x : Charges) : (b.setCharges x).charges = x := rfl
@[simp] theorem setCharges_nv (x : Charges) : (b.setCharges x).nv = b.nv := rfl
@[simp] theorem setCharges_link (x : Charges) : (b.setCharges x).link = b.link := rfl
@[simp] theorem setCharges_path (x : Charges) : (b.setCharges x).path = b.path := rfl
@[simp] theorem setCharges_stand (x : Charges) : (b.setCharges x).stand = b.stand := rfl
@[simp] theorem setCharges_mem (x : Charges) : (b.setCharges x).mem = b.mem := rfl
@[simp] theorem setCharges_nvCycle (x : Charges) : (b.setCharges x).nvCycle = b.nvCycle := rfl
@[simp] theorem setCharges_resetPin (x : Charges) : (b.setCharges x).resetPin = b.resetPin := rfl
@[simp] theorem setCharges_supplyLow (x : Charges) : (b.setCharges x).supplyLow = b.supplyLow := rfl
@[simp] theorem setCharges_freeCount (x : Charges) : (b.setCharges x).freeCount = b.freeCount := rfl

/-! ### setNv -/

@[simp] theorem setNv_orders (x : Nv) : (b.setNv x).orders = b.orders := rfl
@[simp] theorem setNv_gate (x : Nv) : (b.setNv x).gate = b.gate := rfl
@[simp] theorem setNv_expo (x : Nv) : (b.setNv x).expo = b.expo := rfl
@[simp] theorem setNv_film (x : Nv) : (b.setNv x).film = b.film := rfl
@[simp] theorem setNv_pages (x : Nv) : (b.setNv x).pages = b.pages := rfl
@[simp] theorem setNv_charges (x : Nv) : (b.setNv x).charges = b.charges := rfl
@[simp] theorem setNv_nv (x : Nv) : (b.setNv x).nv = x := rfl
@[simp] theorem setNv_link (x : Nv) : (b.setNv x).link = b.link := rfl
@[simp] theorem setNv_path (x : Nv) : (b.setNv x).path = b.path := rfl
@[simp] theorem setNv_stand (x : Nv) : (b.setNv x).stand = b.stand := rfl
@[simp] theorem setNv_mem (x : Nv) : (b.setNv x).mem = b.mem := rfl
@[simp] theorem setNv_nvCycle (x : Nv) : (b.setNv x).nvCycle = b.nvCycle := rfl
@[simp] theorem setNv_resetPin (x : Nv) : (b.setNv x).resetPin = b.resetPin := rfl
@[simp] theorem setNv_supplyLow (x : Nv) : (b.setNv x).supplyLow = b.supplyLow := rfl
@[simp] theorem setNv_freeCount (x : Nv) : (b.setNv x).freeCount = b.freeCount := rfl

/-! ### setLink -/

@[simp] theorem setLink_orders (x : Link) : (b.setLink x).orders = b.orders := rfl
@[simp] theorem setLink_gate (x : Link) : (b.setLink x).gate = b.gate := rfl
@[simp] theorem setLink_expo (x : Link) : (b.setLink x).expo = b.expo := rfl
@[simp] theorem setLink_film (x : Link) : (b.setLink x).film = b.film := rfl
@[simp] theorem setLink_pages (x : Link) : (b.setLink x).pages = b.pages := rfl
@[simp] theorem setLink_charges (x : Link) : (b.setLink x).charges = b.charges := rfl
@[simp] theorem setLink_nv (x : Link) : (b.setLink x).nv = b.nv := rfl
@[simp] theorem setLink_link (x : Link) : (b.setLink x).link = x := rfl
@[simp] theorem setLink_path (x : Link) : (b.setLink x).path = b.path := rfl
@[simp] theorem setLink_stand (x : Link) : (b.setLink x).stand = b.stand := rfl
@[simp] theorem setLink_mem (x : Link) : (b.setLink x).mem = b.mem := rfl
@[simp] theorem setLink_nvCycle (x : Link) : (b.setLink x).nvCycle = b.nvCycle := rfl
@[simp] theorem setLink_resetPin (x : Link) : (b.setLink x).resetPin = b.resetPin := rfl
@[simp] theorem setLink_supplyLow (x : Link) : (b.setLink x).supplyLow = b.supplyLow := rfl
@[simp] theorem setLink_freeCount (x : Link) : (b.setLink x).freeCount = b.freeCount := rfl

/-! ### setPath -/

@[simp] theorem setPath_orders (x : Path) : (b.setPath x).orders = b.orders := rfl
@[simp] theorem setPath_gate (x : Path) : (b.setPath x).gate = b.gate := rfl
@[simp] theorem setPath_expo (x : Path) : (b.setPath x).expo = b.expo := rfl
@[simp] theorem setPath_film (x : Path) : (b.setPath x).film = b.film := rfl
@[simp] theorem setPath_pages (x : Path) : (b.setPath x).pages = b.pages := rfl
@[simp] theorem setPath_charges (x : Path) : (b.setPath x).charges = b.charges := rfl
@[simp] theorem setPath_nv (x : Path) : (b.setPath x).nv = b.nv := rfl
@[simp] theorem setPath_link (x : Path) : (b.setPath x).link = b.link := rfl
@[simp] theorem setPath_path (x : Path) : (b.setPath x).path = x := rfl
@[simp] theorem setPath_stand (x : Path) : (b.setPath x).stand = b.stand := rfl
@[simp] theorem setPath_mem (x : Path) : (b.setPath x).mem = b.mem := rfl
@[simp] theorem setPath_nvCycle (x : Path) : (b.setPath x).nvCycle = b.nvCycle := rfl
@[simp] theorem setPath_resetPin (x : Path) : (b.setPath x).resetPin = b.resetPin := rfl
@[simp] theorem setPath_supplyLow (x : Path) : (b.setPath x).supplyLow = b.supplyLow := rfl
@[simp] theorem setPath_freeCount (x : Path) : (b.setPath x).freeCount = b.freeCount := rfl

/-! ### setStand -/

@[simp] theorem setStand_orders (x : Stand) : (b.setStand x).orders = b.orders := rfl
@[simp] theorem setStand_gate (x : Stand) : (b.setStand x).gate = b.gate := rfl
@[simp] theorem setStand_expo (x : Stand) : (b.setStand x).expo = b.expo := rfl
@[simp] theorem setStand_film (x : Stand) : (b.setStand x).film = b.film := rfl
@[simp] theorem setStand_pages (x : Stand) : (b.setStand x).pages = b.pages := rfl
@[simp] theorem setStand_charges (x : Stand) : (b.setStand x).charges = b.charges := rfl
@[simp] theorem setStand_nv (x : Stand) : (b.setStand x).nv = b.nv := rfl
@[simp] theorem setStand_link (x : Stand) : (b.setStand x).link = b.link := rfl
@[simp] theorem setStand_path (x : Stand) : (b.setStand x).path = b.path := rfl
@[simp] theorem setStand_stand (x : Stand) : (b.setStand x).stand = x := rfl
@[simp] theorem setStand_mem (x : Stand) : (b.setStand x).mem = b.mem := rfl
@[simp] theorem setStand_nvCycle (x : Stand) : (b.setStand x).nvCycle = b.nvCycle := rfl
@[simp] theorem setStand_resetPin (x : Stand) : (b.setStand x).resetPin = b.resetPin := rfl
@[simp] theorem setStand_supplyLow (x : Stand) : (b.setStand x).supplyLow = b.supplyLow := rfl
@[simp] theorem setStand_freeCount (x : Stand) : (b.setStand x).freeCount = b.freeCount := rfl

/-! ### setMem -/

@[simp] theorem setMem_orders (x : List Host.Cell) : (b.setMem x).orders = b.orders := rfl
@[simp] theorem setMem_gate (x : List Host.Cell) : (b.setMem x).gate = b.gate := rfl
@[simp] theorem setMem_expo (x : List Host.Cell) : (b.setMem x).expo = b.expo := rfl
@[simp] theorem setMem_film (x : List Host.Cell) : (b.setMem x).film = b.film := rfl
@[simp] theorem setMem_pages (x : List Host.Cell) : (b.setMem x).pages = b.pages := rfl
@[simp] theorem setMem_charges (x : List Host.Cell) : (b.setMem x).charges = b.charges := rfl
@[simp] theorem setMem_nv (x : List Host.Cell) : (b.setMem x).nv = b.nv := rfl
@[simp] theorem setMem_link (x : List Host.Cell) : (b.setMem x).link = b.link := rfl
@[simp] theorem setMem_path (x : List Host.Cell) : (b.setMem x).path = b.path := rfl
@[simp] theorem setMem_stand (x : List Host.Cell) : (b.setMem x).stand = b.stand := rfl
@[simp] theorem setMem_mem (x : List Host.Cell) : (b.setMem x).mem = x := rfl
@[simp] theorem setMem_nvCycle (x : List Host.Cell) : (b.setMem x).nvCycle = b.nvCycle := rfl
@[simp] theorem setMem_resetPin (x : List Host.Cell) : (b.setMem x).resetPin = b.resetPin := rfl
@[simp] theorem setMem_supplyLow (x : List Host.Cell) : (b.setMem x).supplyLow = b.supplyLow := rfl
@[simp] theorem setMem_freeCount (x : List Host.Cell) : (b.setMem x).freeCount = b.freeCount := rfl

/-! ### setNvCycle -/

@[simp] theorem setNvCycle_orders (x : Option (List (Nat × Word))) : (b.setNvCycle x).orders = b.orders := rfl
@[simp] theorem setNvCycle_gate (x : Option (List (Nat × Word))) : (b.setNvCycle x).gate = b.gate := rfl
@[simp] theorem setNvCycle_expo (x : Option (List (Nat × Word))) : (b.setNvCycle x).expo = b.expo := rfl
@[simp] theorem setNvCycle_film (x : Option (List (Nat × Word))) : (b.setNvCycle x).film = b.film := rfl
@[simp] theorem setNvCycle_pages (x : Option (List (Nat × Word))) : (b.setNvCycle x).pages = b.pages := rfl
@[simp] theorem setNvCycle_charges (x : Option (List (Nat × Word))) : (b.setNvCycle x).charges = b.charges := rfl
@[simp] theorem setNvCycle_nv (x : Option (List (Nat × Word))) : (b.setNvCycle x).nv = b.nv := rfl
@[simp] theorem setNvCycle_link (x : Option (List (Nat × Word))) : (b.setNvCycle x).link = b.link := rfl
@[simp] theorem setNvCycle_path (x : Option (List (Nat × Word))) : (b.setNvCycle x).path = b.path := rfl
@[simp] theorem setNvCycle_stand (x : Option (List (Nat × Word))) : (b.setNvCycle x).stand = b.stand := rfl
@[simp] theorem setNvCycle_mem (x : Option (List (Nat × Word))) : (b.setNvCycle x).mem = b.mem := rfl
@[simp] theorem setNvCycle_nvCycle (x : Option (List (Nat × Word))) : (b.setNvCycle x).nvCycle = x := rfl
@[simp] theorem setNvCycle_resetPin (x : Option (List (Nat × Word))) : (b.setNvCycle x).resetPin = b.resetPin := rfl
@[simp] theorem setNvCycle_supplyLow (x : Option (List (Nat × Word))) : (b.setNvCycle x).supplyLow = b.supplyLow := rfl
@[simp] theorem setNvCycle_freeCount (x : Option (List (Nat × Word))) : (b.setNvCycle x).freeCount = b.freeCount := rfl

/-! ### setFreeCount -/

@[simp] theorem setFreeCount_orders (x : Nat) : (b.setFreeCount x).orders = b.orders := rfl
@[simp] theorem setFreeCount_gate (x : Nat) : (b.setFreeCount x).gate = b.gate := rfl
@[simp] theorem setFreeCount_expo (x : Nat) : (b.setFreeCount x).expo = b.expo := rfl
@[simp] theorem setFreeCount_film (x : Nat) : (b.setFreeCount x).film = b.film := rfl
@[simp] theorem setFreeCount_pages (x : Nat) : (b.setFreeCount x).pages = b.pages := rfl
@[simp] theorem setFreeCount_charges (x : Nat) : (b.setFreeCount x).charges = b.charges := rfl
@[simp] theorem setFreeCount_nv (x : Nat) : (b.setFreeCount x).nv = b.nv := rfl
@[simp] theorem setFreeCount_link (x : Nat) : (b.setFreeCount x).link = b.link := rfl
@[simp] theorem setFreeCount_path (x : Nat) : (b.setFreeCount x).path = b.path := rfl
@[simp] theorem setFreeCount_stand (x : Nat) : (b.setFreeCount x).stand = b.stand := rfl
@[simp] theorem setFreeCount_mem (x : Nat) : (b.setFreeCount x).mem = b.mem := rfl
@[simp] theorem setFreeCount_nvCycle (x : Nat) : (b.setFreeCount x).nvCycle = b.nvCycle := rfl
@[simp] theorem setFreeCount_resetPin (x : Nat) : (b.setFreeCount x).resetPin = b.resetPin := rfl
@[simp] theorem setFreeCount_supplyLow (x : Nat) : (b.setFreeCount x).supplyLow = b.supplyLow := rfl
@[simp] theorem setFreeCount_freeCount (x : Nat) : (b.setFreeCount x).freeCount = x := rfl

/-! ### setPins -/

@[simp] theorem setPins_orders (r s : Bool) : (b.setPins r s).orders = b.orders := rfl
@[simp] theorem setPins_gate (r s : Bool) : (b.setPins r s).gate = b.gate := rfl
@[simp] theorem setPins_expo (r s : Bool) : (b.setPins r s).expo = b.expo := rfl
@[simp] theorem setPins_film (r s : Bool) : (b.setPins r s).film = b.film := rfl
@[simp] theorem setPins_pages (r s : Bool) : (b.setPins r s).pages = b.pages := rfl
@[simp] theorem setPins_charges (r s : Bool) : (b.setPins r s).charges = b.charges := rfl
@[simp] theorem setPins_nv (r s : Bool) : (b.setPins r s).nv = b.nv := rfl
@[simp] theorem setPins_link (r s : Bool) : (b.setPins r s).link = b.link := rfl
@[simp] theorem setPins_path (r s : Bool) : (b.setPins r s).path = b.path := rfl
@[simp] theorem setPins_stand (r s : Bool) : (b.setPins r s).stand = b.stand := rfl
@[simp] theorem setPins_mem (r s : Bool) : (b.setPins r s).mem = b.mem := rfl
@[simp] theorem setPins_nvCycle (r s : Bool) : (b.setPins r s).nvCycle = b.nvCycle := rfl
@[simp] theorem setPins_resetPin (r s : Bool) : (b.setPins r s).resetPin = r := rfl
@[simp] theorem setPins_supplyLow (r s : Bool) : (b.setPins r s).supplyLow = s := rfl
@[simp] theorem setPins_freeCount (r s : Bool) : (b.setPins r s).freeCount = b.freeCount := rfl

end Sys2Proof.Machine
end

