-- ==== Sys2Proof/Laws/Memory.lean ====
section
/-! SUPPORT. Reading after writing, and the canonical form under every memory operation. -/

namespace Sys2Proof.Machine

/-! ## Canonical form -/

theorem Memory.wfAbove_mono {a c : Nat} {m : List Host.Cell} (h : Memory.wfAbove c m = true) (hac : a ≤ c) :
    Memory.wfAbove a m = true := by
  cases m with
  | nil => rfl
  | cons x t =>
    obtain ⟨k, v⟩ := x
    simp only [Memory.wfAbove, Bool.and_eq_true, decide_eq_true_eq] at h ⊢
    exact ⟨⟨by omega, h.1.2⟩, h.2⟩

theorem Memory.wfAbove_set {c a : Nat} {v : Byte} {m : List Host.Cell} (h : Memory.wfAbove c m = true) (hc : c ≤ a) :
    Memory.wfAbove c (Memory.set m a v) = true := by
  induction m generalizing c with
  | nil =>
    simp only [Memory.set]
    split
    · rfl
    · simp_all [Memory.wfAbove]
  | cons x t ih =>
    obtain ⟨k, w⟩ := x
    simp only [Memory.wfAbove, Bool.and_eq_true, decide_eq_true_eq] at h
    simp only [Memory.set]
    split
    · split
      · simp_all [Memory.wfAbove]
      · simp_all [Memory.wfAbove]
    · split
      · subst_vars
        split
        · exact Memory.wfAbove_mono h.2 (by omega)
        · simp_all [Memory.wfAbove]
      · simp only [Memory.wfAbove, Bool.and_eq_true, decide_eq_true_eq]
        exact ⟨⟨h.1.1, h.1.2⟩, ih h.2 (by omega)⟩

/-- Setting a byte keeps the canonical form. -/
theorem Memory.wf_set {m : List Host.Cell} (h : Memory.wf m = true) (a : Nat) (v : Byte) :
    Memory.wf (Memory.set m a v) = true := Memory.wfAbove_set h (Nat.zero_le a)

/-- Writing a word keeps the canonical form. -/
theorem wf_writeWord {m : List Host.Cell} (h : Memory.wf m = true) (a : Nat) (v : Word) :
    Memory.wf (writeWord m a v) = true := Memory.wf_set (Memory.wf_set h _ _) _ _

/-- Writing the words of a cycle keeps the canonical form. -/
theorem wf_storeWords {m : List Host.Cell} (h : Memory.wf m = true) (l : List (Nat × Word)) :
    Memory.wf (storeWords m l) = true := by
  induction l generalizing m with
  | nil => exact h
  | cons x t ih => exact ih (wf_writeWord h x.1 x.2)

theorem wfAbove_nvCells {c : Nat} {m : List Host.Cell} (h : Memory.wfAbove c m = true) :
    Memory.wfAbove c (nvCells m) = true := by
  induction m generalizing c with
  | nil => rfl
  | cons x t ih =>
    obtain ⟨k, v⟩ := x
    simp only [Memory.wfAbove, Bool.and_eq_true, decide_eq_true_eq] at h
    have ht := ih h.2
    simp only [nvCells] at ht ⊢
    by_cases hk : nvBase ≤ k
    · simp only [List.filter_cons, hk, decide_true, if_true, Memory.wfAbove, Bool.and_eq_true, decide_eq_true_eq]
      exact ⟨h.1, ht⟩
    · simp only [List.filter_cons, hk, decide_false]
      exact Memory.wfAbove_mono ht (by omega)

/-- Dropping the RAM cells keeps the canonical form. -/
theorem wf_nvCells {m : List Host.Cell} (h : Memory.wf m = true) : Memory.wf (nvCells m) = true := wfAbove_nvCells h

/-! ## Reading after writing -/

theorem Memory.get_of_lt {c a : Nat} {m : List Host.Cell} (h : Memory.wfAbove c m = true) (hac : a < c) :
    Memory.get m a = unlisted a := by
  cases m with
  | nil => rfl
  | cons x t =>
    obtain ⟨k, v⟩ := x
    simp only [Memory.wfAbove, Bool.and_eq_true, decide_eq_true_eq] at h
    simp only [Memory.get]
    rw [if_pos (by omega)]

theorem Memory.get_set_above {c a x : Nat} {v : Byte} {m : List Host.Cell} (h : Memory.wfAbove c m = true) :
    Memory.get (Memory.set m a v) x = if x = a then v else Memory.get m x := by
  induction m generalizing c with
  | nil =>
    simp only [Memory.set]
    split <;> by_cases hx : x = a <;> simp_all [Memory.get]
  | cons y t ih =>
    obtain ⟨k, w⟩ := y
    simp only [Memory.wfAbove, Bool.and_eq_true, decide_eq_true_eq] at h
    have ih' := ih h.2
    have hlow : ∀ z, z < k + 1 → Memory.get t z = unlisted z := fun z hz => Memory.get_of_lt h.2 hz
    simp only [Memory.set]
    by_cases h1 : a < k
    · rw [if_pos h1]
      by_cases h2 : v = unlisted a
      · rw [if_pos h2]
        by_cases hx : x = a
        · subst hx; simp [Memory.get, h1, h2]
        · simp [hx]
      · rw [if_neg h2]
        by_cases hx : x = a
        · subst hx; simp [Memory.get]
        · simp only [hx, if_false]
          by_cases h3 : x < a
          · simp [Memory.get, h3, show x < k by omega]
          · simp [Memory.get, h3, hx]
    · rw [if_neg h1]
      by_cases h2 : a = k
      · subst h2
        rw [if_pos rfl]
        by_cases h3 : v = unlisted a
        · rw [if_pos h3]
          by_cases hx : x = a
          · subst hx; simp [hlow x (by omega), h3]
          · simp only [hx, if_false, Memory.get]
            by_cases h4 : x < a
            · simp [h4, hlow x (by omega)]
            · simp [h4]
        · rw [if_neg h3]
          by_cases hx : x = a
          · subst hx; simp [Memory.get]
          · simp [Memory.get, hx]
      · rw [if_neg h2]
        by_cases hx : x = a
        · subst hx
          simp only [Memory.get, h1, h2, if_false, ih', if_true]
        · simp only [Memory.get, ih', hx, if_false]

/-- A byte of a canonical memory after a byte is set. -/
theorem Memory.get_set {m : List Host.Cell} (h : Memory.wf m = true) (a x : Nat) (v : Byte) :
    Memory.get (Memory.set m a v) x = if x = a then v else Memory.get m x := Memory.get_set_above h

/-- A byte outside the written word reads as before. -/
theorem get_writeWord_other {m : List Host.Cell} (h : Memory.wf m = true) {a x : Nat} (v : Word) (hx : ¬ inWord a x) :
    Memory.get (writeWord m a v) x = Memory.get m x := by
  have h1 : x ≠ evenAddr a + 1 := by intro e; exact hx ⟨by omega, by omega⟩
  have h2 : x ≠ evenAddr a := by intro e; exact hx ⟨by omega, by omega⟩
  rw [writeWord, Memory.get_set (Memory.wf_set h _ _), if_neg h1, Memory.get_set h, if_neg h2]

/-- A word is its high byte before its low byte. -/
theorem halves (v : Word) : (v.extractLsb' 8 8 ++ v.extractLsb' 0 8 : BitVec (8 + 8)) = v := by
  apply BitVec.eq_of_getLsbD_eq
  intro i hi
  rw [BitVec.getLsbD_append]
  by_cases h : i < 8
  · simp [h]
  · have h2 : i - 8 < 8 := by omega
    have h3 : 8 + (i - 8) = i := by omega
    simp [h, h2, h3]

/-- The word just written reads back. -/
theorem readWord_writeWord {m : List Host.Cell} (h : Memory.wf m = true) (a : Nat) (v : Word) :
    readWord (writeWord m a v) a = v := by
  rw [readWord, writeWord, Memory.get_set (Memory.wf_set h _ _), if_pos rfl, Memory.get_set (Memory.wf_set h _ _),
    if_neg (by omega), Memory.get_set h, if_pos rfl]
  exact halves v

/-- A byte outside every word of a cycle reads as before. -/
theorem get_storeWords_other {m : List Host.Cell} (h : Memory.wf m = true) {x : Nat} (l : List (Nat × Word))
    (hx : ∀ w ∈ l, ¬ inWord w.1 x) : Memory.get (storeWords m l) x = Memory.get m x := by
  induction l generalizing m with
  | nil => rfl
  | cons y t ih =>
    have h1 : Memory.get (storeWords (writeWord m y.1 y.2) t) x = Memory.get (writeWord m y.1 y.2) x :=
      ih (wf_writeWord h _ _) (fun w hw => hx w (List.mem_cons_of_mem _ hw))
    exact h1.trans (get_writeWord_other h _ (hx y List.mem_cons_self))

end Sys2Proof.Machine
end

