-- ==== Sys2Proof/Laws/FramesLow.lean ====
section
/-! SUPPORT. What each operation leaves as it is: notices, refusals, the arbiter, the Order Table, the Account Store Port. -/

set_option linter.unusedTactic false
set_option linter.unnecessarySeqFocus false
set_option linter.unreachableTactic false

namespace Sys2Proof.Machine

/-- A field that every step of a fold keeps is kept by the fold. -/
theorem foldl_keeps {α β : Type} (g : Block → β) (f : Block → α → Block) (h : ∀ b x, g (f b x) = g b) (l : List α)
    (b : Block) : g (l.foldl f b) = g b := by
  induction l generalizing b with
  | nil => rfl
  | cons x t ih => exact (ih (f b x)).trans (h b x)

@[simp] theorem raise_frame (n : Notice) (b : Block) :
    (raise n b).orders = b.orders ∧ (raise n b).gate = b.gate ∧ (raise n b).expo = b.expo ∧ (raise n b).film =
    b.film ∧ (raise n b).pages = b.pages ∧ (raise n b).charges = b.charges ∧ (raise n b).nv = b.nv ∧ (raise n
    b).link = b.link ∧ (raise n b).path = b.path ∧ (raise n b).mem = b.mem ∧ (raise n b).nvCycle = b.nvCycle ∧
    (raise n b).resetPin = b.resetPin ∧ (raise n b).supplyLow = b.supplyLow ∧ (raise n b).freeCount =
    b.freeCount := by
  unfold raise
  (try dsimp only)
  (repeat' split) <;> simp [*]

@[simp] theorem refuse_frame (addr : Nat) (b : Block) :
    (refuse addr b).orders = b.orders ∧ (refuse addr b).gate = b.gate ∧ (refuse addr b).expo = b.expo ∧ (refuse
    addr b).film = b.film ∧ (refuse addr b).pages = b.pages ∧ (refuse addr b).charges = b.charges ∧ (refuse addr
    b).nv = b.nv ∧ (refuse addr b).link = b.link ∧ (refuse addr b).mem = b.mem ∧ (refuse addr b).nvCycle =
    b.nvCycle ∧ (refuse addr b).resetPin = b.resetPin ∧ (refuse addr b).supplyLow = b.supplyLow ∧ (refuse addr
    b).freeCount = b.freeCount := by
  unfold refuse
  (try dsimp only)
  (repeat' split) <;> simp [*]

@[simp] theorem answer_frame (w : Word) (b : Block) :
    (answer w b).orders = b.orders ∧ (answer w b).gate = b.gate ∧ (answer w b).expo = b.expo ∧ (answer w b).film
    = b.film ∧ (answer w b).pages = b.pages ∧ (answer w b).charges = b.charges ∧ (answer w b).nv = b.nv ∧
    (answer w b).link = b.link ∧ (answer w b).stand = b.stand ∧ (answer w b).mem = b.mem ∧ (answer w b).nvCycle
    = b.nvCycle ∧ (answer w b).resetPin = b.resetPin ∧ (answer w b).supplyLow = b.supplyLow ∧ (answer w
    b).freeCount = b.freeCount := by
  unfold answer
  (try dsimp only)
  (repeat' split) <;> simp [*]

@[simp] theorem setBus_frame (x : Bus) (b : Block) :
    (setBus x b).orders = b.orders ∧ (setBus x b).gate = b.gate ∧ (setBus x b).expo = b.expo ∧ (setBus x b).film
    = b.film ∧ (setBus x b).pages = b.pages ∧ (setBus x b).charges = b.charges ∧ (setBus x b).nv = b.nv ∧
    (setBus x b).link = b.link ∧ (setBus x b).stand = b.stand ∧ (setBus x b).mem = b.mem ∧ (setBus x b).nvCycle
    = b.nvCycle ∧ (setBus x b).resetPin = b.resetPin ∧ (setBus x b).supplyLow = b.supplyLow ∧ (setBus x
    b).freeCount = b.freeCount := by
  unfold setBus
  (try dsimp only)
  (repeat' split) <;> simp [*]

@[simp] theorem refuseAt_frame (t : Target) (b : Block) :
    (refuseAt t b).orders = b.orders ∧ (refuseAt t b).gate = b.gate ∧ (refuseAt t b).expo = b.expo ∧ (refuseAt t
    b).film = b.film ∧ (refuseAt t b).pages = b.pages ∧ (refuseAt t b).charges = b.charges ∧ (refuseAt t b).nv =
    b.nv ∧ (refuseAt t b).link = b.link ∧ (refuseAt t b).mem = b.mem ∧ (refuseAt t b).nvCycle = b.nvCycle ∧
    (refuseAt t b).resetPin = b.resetPin ∧ (refuseAt t b).supplyLow = b.supplyLow ∧ (refuseAt t b).freeCount =
    b.freeCount := by
  unfold refuseAt
  (try dsimp only)
  (repeat' split) <;> simp [*]

@[simp] theorem withShadow_frame (n : Fin 24) (f : Shadow → Shadow) (b : Block) :
    (withShadow n f b).gate = b.gate ∧ (withShadow n f b).expo = b.expo ∧ (withShadow n f b).film = b.film ∧
    (withShadow n f b).pages = b.pages ∧ (withShadow n f b).charges = b.charges ∧ (withShadow n f b).nv = b.nv ∧
    (withShadow n f b).link = b.link ∧ (withShadow n f b).path = b.path ∧ (withShadow n f b).stand = b.stand ∧
    (withShadow n f b).mem = b.mem ∧ (withShadow n f b).nvCycle = b.nvCycle ∧ (withShadow n f b).resetPin =
    b.resetPin ∧ (withShadow n f b).supplyLow = b.supplyLow ∧ (withShadow n f b).freeCount = b.freeCount := by
  unfold withShadow
  (try dsimp only)
  (repeat' split) <;> simp [*]

@[simp] theorem noteWrite_frame (a : Nat) (v : Word) (b : Block) :
    (noteWrite a v b).gate = b.gate ∧ (noteWrite a v b).film = b.film ∧ (noteWrite a v b).pages = b.pages ∧
    (noteWrite a v b).charges = b.charges ∧ (noteWrite a v b).nv = b.nv ∧ (noteWrite a v b).link = b.link ∧
    (noteWrite a v b).path = b.path ∧ (noteWrite a v b).mem = b.mem ∧ (noteWrite a v b).nvCycle = b.nvCycle ∧
    (noteWrite a v b).resetPin = b.resetPin ∧ (noteWrite a v b).supplyLow = b.supplyLow ∧ (noteWrite a v
    b).freeCount = b.freeCount := by
  unfold noteWrite
  (try dsimp only)
  (repeat' split) <;> simp [*]

@[simp] theorem issue_frame (owner : Owner) (work : Work) (b : Block) :
    (issue owner work b).orders = b.orders ∧ (issue owner work b).gate = b.gate ∧ (issue owner work b).expo =
    b.expo ∧ (issue owner work b).film = b.film ∧ (issue owner work b).pages = b.pages ∧ (issue owner work
    b).charges = b.charges ∧ (issue owner work b).nv = b.nv ∧ (issue owner work b).link = b.link ∧ (issue owner
    work b).stand = b.stand ∧ (issue owner work b).mem = b.mem ∧ (issue owner work b).nvCycle = b.nvCycle ∧
    (issue owner work b).resetPin = b.resetPin ∧ (issue owner work b).supplyLow = b.supplyLow ∧ (issue owner
    work b).freeCount = b.freeCount := by
  unfold issue
  (try dsimp only)
  (repeat' split) <;> simp [*]

@[simp] theorem issuePage_frame (accs : List (Target × Word)) (b : Block) :
    (issuePage accs b).orders = b.orders ∧ (issuePage accs b).gate = b.gate ∧ (issuePage accs b).expo = b.expo ∧
    (issuePage accs b).film = b.film ∧ (issuePage accs b).pages = b.pages ∧ (issuePage accs b).charges =
    b.charges ∧ (issuePage accs b).nv = b.nv ∧ (issuePage accs b).link = b.link ∧ (issuePage accs b).stand =
    b.stand ∧ (issuePage accs b).mem = b.mem ∧ (issuePage accs b).nvCycle = b.nvCycle ∧ (issuePage accs
    b).resetPin = b.resetPin ∧ (issuePage accs b).supplyLow = b.supplyLow ∧ (issuePage accs b).freeCount =
    b.freeCount := by
  unfold issuePage
  (try dsimp only)
  (repeat' split) <;> simp [*]

@[simp] theorem waitAtPort_frame (owner : Owner) (accs : List WordAcc) (b : Block) :
    (waitAtPort owner accs b).orders = b.orders ∧ (waitAtPort owner accs b).gate = b.gate ∧ (waitAtPort owner
    accs b).expo = b.expo ∧ (waitAtPort owner accs b).film = b.film ∧ (waitAtPort owner accs b).pages = b.pages
    ∧ (waitAtPort owner accs b).charges = b.charges ∧ (waitAtPort owner accs b).nv = b.nv ∧ (waitAtPort owner
    accs b).link = b.link ∧ (waitAtPort owner accs b).stand = b.stand ∧ (waitAtPort owner accs b).mem = b.mem ∧
    (waitAtPort owner accs b).nvCycle = b.nvCycle ∧ (waitAtPort owner accs b).resetPin = b.resetPin ∧
    (waitAtPort owner accs b).supplyLow = b.supplyLow ∧ (waitAtPort owner accs b).freeCount = b.freeCount := by
  unfold waitAtPort
  (try dsimp only)
  (repeat' split) <;> simp [*]

@[simp] theorem memoryAccess_frame (a : Access) (b : Block) :
    (memoryAccess a b).orders = b.orders ∧ (memoryAccess a b).gate = b.gate ∧ (memoryAccess a b).expo = b.expo ∧
    (memoryAccess a b).film = b.film ∧ (memoryAccess a b).pages = b.pages ∧ (memoryAccess a b).charges =
    b.charges ∧ (memoryAccess a b).nv = b.nv ∧ (memoryAccess a b).link = b.link ∧ (memoryAccess a b).stand =
    b.stand ∧ (memoryAccess a b).mem = b.mem ∧ (memoryAccess a b).nvCycle = b.nvCycle ∧ (memoryAccess a
    b).resetPin = b.resetPin ∧ (memoryAccess a b).supplyLow = b.supplyLow ∧ (memoryAccess a b).freeCount =
    b.freeCount := by
  unfold memoryAccess
  (try dsimp only)
  (repeat' split) <;> simp [*]

@[simp] theorem accessMemory_frame (owner : Owner) (acc : WordAcc) (last : Bool) (b : Block) :
    (accessMemory owner acc last b).gate = b.gate ∧ (accessMemory owner acc last b).film = b.film ∧
    (accessMemory owner acc last b).pages = b.pages ∧ (accessMemory owner acc last b).charges = b.charges ∧
    (accessMemory owner acc last b).nv = b.nv ∧ (accessMemory owner acc last b).link = b.link ∧ (accessMemory
    owner acc last b).path = b.path ∧ (accessMemory owner acc last b).resetPin = b.resetPin ∧ (accessMemory
    owner acc last b).supplyLow = b.supplyLow ∧ (accessMemory owner acc last b).freeCount = b.freeCount := by
  unfold accessMemory
  (try dsimp only)
  (repeat' split) <;> simp [*]

@[simp] theorem serve_frame (owner : Owner) (acc : WordAcc) (last : Bool) (got : List Word) (b : Block) :
    (serve owner acc last got b).gate = b.gate ∧ (serve owner acc last got b).film = b.film ∧ (serve owner acc
    last got b).pages = b.pages ∧ (serve owner acc last got b).charges = b.charges ∧ (serve owner acc last got
    b).nv = b.nv ∧ (serve owner acc last got b).link = b.link ∧ (serve owner acc last got b).resetPin =
    b.resetPin ∧ (serve owner acc last got b).supplyLow = b.supplyLow ∧ (serve owner acc last got b).freeCount =
    b.freeCount := by
  unfold serve
  (try dsimp only)
  (repeat' split) <;> simp [*]

@[simp] theorem takeController_frame (s : WordSet) (b : Block) :
    (takeController s b).gate = b.gate ∧ (takeController s b).film = b.film ∧ (takeController s b).pages =
    b.pages ∧ (takeController s b).charges = b.charges ∧ (takeController s b).nv = b.nv ∧ (takeController s
    b).link = b.link ∧ (takeController s b).resetPin = b.resetPin ∧ (takeController s b).supplyLow = b.supplyLow
    ∧ (takeController s b).freeCount = b.freeCount := by
  unfold takeController
  (try dsimp only)
  (repeat' split) <;> simp [*]

@[simp] theorem takePart_frame (s : WordSet) (tail : List WordSet) (b : Block) :
    (takePart s tail b).gate = b.gate ∧ (takePart s tail b).film = b.film ∧ (takePart s tail b).pages = b.pages
    ∧ (takePart s tail b).charges = b.charges ∧ (takePart s tail b).nv = b.nv ∧ (takePart s tail b).link =
    b.link ∧ (takePart s tail b).resetPin = b.resetPin ∧ (takePart s tail b).supplyLow = b.supplyLow ∧ (takePart
    s tail b).freeCount = b.freeCount := by
  unfold takePart
  (try dsimp only)
  (repeat' split) <;> simp [*]

@[simp] theorem takeHead_frame (b : Block) :
    (takeHead b).gate = b.gate ∧ (takeHead b).film = b.film ∧ (takeHead b).pages = b.pages ∧ (takeHead
    b).charges = b.charges ∧ (takeHead b).nv = b.nv ∧ (takeHead b).link = b.link ∧ (takeHead b).resetPin =
    b.resetPin ∧ (takeHead b).supplyLow = b.supplyLow ∧ (takeHead b).freeCount = b.freeCount := by
  unfold takeHead
  (try dsimp only)
  (repeat' split) <;> simp [*]

@[simp] theorem dropWaiting_frame (a : Nat) (b : Block) :
    (dropWaiting a b).orders = b.orders ∧ (dropWaiting a b).gate = b.gate ∧ (dropWaiting a b).expo = b.expo ∧
    (dropWaiting a b).film = b.film ∧ (dropWaiting a b).pages = b.pages ∧ (dropWaiting a b).charges = b.charges
    ∧ (dropWaiting a b).nv = b.nv ∧ (dropWaiting a b).link = b.link ∧ (dropWaiting a b).mem = b.mem ∧
    (dropWaiting a b).nvCycle = b.nvCycle ∧ (dropWaiting a b).resetPin = b.resetPin ∧ (dropWaiting a
    b).supplyLow = b.supplyLow ∧ (dropWaiting a b).freeCount = b.freeCount := by
  unfold dropWaiting
  (try dsimp only)
  (repeat' split) <;> simp [*]

@[simp] theorem arbitrate_frame (b : Block) :
    (arbitrate b).gate = b.gate ∧ (arbitrate b).film = b.film ∧ (arbitrate b).pages = b.pages ∧ (arbitrate
    b).charges = b.charges ∧ (arbitrate b).nv = b.nv ∧ (arbitrate b).link = b.link ∧ (arbitrate b).resetPin =
    b.resetPin ∧ (arbitrate b).supplyLow = b.supplyLow ∧ (arbitrate b).freeCount = b.freeCount := by
  unfold arbitrate
  (try dsimp only)
  (repeat' split) <;> simp [*]

@[simp] theorem guardedWrite_frame (t : Target) (v : Word) (b : Block) :
    (guardedWrite t v b).orders = b.orders ∧ (guardedWrite t v b).gate = b.gate ∧ (guardedWrite t v b).expo =
    b.expo ∧ (guardedWrite t v b).film = b.film ∧ (guardedWrite t v b).pages = b.pages ∧ (guardedWrite t v
    b).charges = b.charges ∧ (guardedWrite t v b).nv = b.nv ∧ (guardedWrite t v b).link = b.link ∧ (guardedWrite
    t v b).mem = b.mem ∧ (guardedWrite t v b).nvCycle = b.nvCycle ∧ (guardedWrite t v b).resetPin = b.resetPin ∧
    (guardedWrite t v b).supplyLow = b.supplyLow ∧ (guardedWrite t v b).freeCount = b.freeCount := by
  unfold guardedWrite
  (try dsimp only)
  (repeat' split) <;> simp [*]

@[simp] theorem putWriteBack_frame (n : Fin 24) (ws : ResultWords) (notice : Bool) (b : Block) :
    (putWriteBack n ws notice b).orders = b.orders ∧ (putWriteBack n ws notice b).gate = b.gate ∧ (putWriteBack
    n ws notice b).expo = b.expo ∧ (putWriteBack n ws notice b).film = b.film ∧ (putWriteBack n ws notice
    b).pages = b.pages ∧ (putWriteBack n ws notice b).charges = b.charges ∧ (putWriteBack n ws notice b).nv =
    b.nv ∧ (putWriteBack n ws notice b).link = b.link ∧ (putWriteBack n ws notice b).stand = b.stand ∧
    (putWriteBack n ws notice b).mem = b.mem ∧ (putWriteBack n ws notice b).nvCycle = b.nvCycle ∧ (putWriteBack
    n ws notice b).resetPin = b.resetPin ∧ (putWriteBack n ws notice b).supplyLow = b.supplyLow ∧ (putWriteBack
    n ws notice b).freeCount = b.freeCount := by
  unfold putWriteBack
  (try dsimp only)
  (repeat' split) <;> simp [*]

@[simp] theorem countWriteBack_frame (n : Fin 24) (b : Block) :
    (countWriteBack n b).gate = b.gate ∧ (countWriteBack n b).expo = b.expo ∧ (countWriteBack n b).film = b.film
    ∧ (countWriteBack n b).pages = b.pages ∧ (countWriteBack n b).charges = b.charges ∧ (countWriteBack n b).nv
    = b.nv ∧ (countWriteBack n b).link = b.link ∧ (countWriteBack n b).path = b.path ∧ (countWriteBack n
    b).stand = b.stand ∧ (countWriteBack n b).mem = b.mem ∧ (countWriteBack n b).nvCycle = b.nvCycle ∧
    (countWriteBack n b).resetPin = b.resetPin ∧ (countWriteBack n b).supplyLow = b.supplyLow ∧ (countWriteBack
    n b).freeCount = b.freeCount := by
  unfold countWriteBack
  (try dsimp only)
  (repeat' split) <;> simp [*]

@[simp] theorem issueWriteBack_frame (n : Fin 24) (ws : ResultWords) (notice : Bool) (b : Block) :
    (issueWriteBack n ws notice b).gate = b.gate ∧ (issueWriteBack n ws notice b).expo = b.expo ∧
    (issueWriteBack n ws notice b).film = b.film ∧ (issueWriteBack n ws notice b).pages = b.pages ∧
    (issueWriteBack n ws notice b).charges = b.charges ∧ (issueWriteBack n ws notice b).nv = b.nv ∧
    (issueWriteBack n ws notice b).link = b.link ∧ (issueWriteBack n ws notice b).stand = b.stand ∧
    (issueWriteBack n ws notice b).mem = b.mem ∧ (issueWriteBack n ws notice b).nvCycle = b.nvCycle ∧
    (issueWriteBack n ws notice b).resetPin = b.resetPin ∧ (issueWriteBack n ws notice b).supplyLow =
    b.supplyLow ∧ (issueWriteBack n ws notice b).freeCount = b.freeCount := by
  unfold issueWriteBack
  (try dsimp only)
  (repeat' split) <;> simp [*]

@[simp] theorem formWriteBack_frame (n : Fin 24) (ws : ResultWords) (notice : Bool) (b : Block) :
    (formWriteBack n ws notice b).gate = b.gate ∧ (formWriteBack n ws notice b).expo = b.expo ∧ (formWriteBack n
    ws notice b).film = b.film ∧ (formWriteBack n ws notice b).pages = b.pages ∧ (formWriteBack n ws notice
    b).charges = b.charges ∧ (formWriteBack n ws notice b).nv = b.nv ∧ (formWriteBack n ws notice b).link =
    b.link ∧ (formWriteBack n ws notice b).stand = b.stand ∧ (formWriteBack n ws notice b).mem = b.mem ∧
    (formWriteBack n ws notice b).nvCycle = b.nvCycle ∧ (formWriteBack n ws notice b).resetPin = b.resetPin ∧
    (formWriteBack n ws notice b).supplyLow = b.supplyLow ∧ (formWriteBack n ws notice b).freeCount =
    b.freeCount := by
  unfold formWriteBack
  (try dsimp only)
  (repeat' split) <;> simp [*]

@[simp] theorem writeBackDone_frame (n : Fin 24) (notice : Bool) (b : Block) :
    (writeBackDone n notice b).gate = b.gate ∧ (writeBackDone n notice b).expo = b.expo ∧ (writeBackDone n
    notice b).film = b.film ∧ (writeBackDone n notice b).pages = b.pages ∧ (writeBackDone n notice b).charges =
    b.charges ∧ (writeBackDone n notice b).nv = b.nv ∧ (writeBackDone n notice b).link = b.link ∧ (writeBackDone
    n notice b).path = b.path ∧ (writeBackDone n notice b).mem = b.mem ∧ (writeBackDone n notice b).nvCycle =
    b.nvCycle ∧ (writeBackDone n notice b).resetPin = b.resetPin ∧ (writeBackDone n notice b).supplyLow =
    b.supplyLow ∧ (writeBackDone n notice b).freeCount = b.freeCount := by
  unfold writeBackDone
  (try dsimp only)
  (repeat' split) <;> simp [*]

@[simp] theorem setLock_frame (l : Option Lock) (b : Block) :
    (setLock l b).gate = b.gate ∧ (setLock l b).expo = b.expo ∧ (setLock l b).film = b.film ∧ (setLock l
    b).pages = b.pages ∧ (setLock l b).charges = b.charges ∧ (setLock l b).nv = b.nv ∧ (setLock l b).link =
    b.link ∧ (setLock l b).path = b.path ∧ (setLock l b).stand = b.stand ∧ (setLock l b).mem = b.mem ∧ (setLock
    l b).nvCycle = b.nvCycle ∧ (setLock l b).resetPin = b.resetPin ∧ (setLock l b).supplyLow = b.supplyLow ∧
    (setLock l b).freeCount = b.freeCount := by
  unfold setLock
  (try dsimp only)
  (repeat' split) <;> simp [*]

@[simp] theorem releaseLock_frame (b : Block) :
    (releaseLock b).gate = b.gate ∧ (releaseLock b).expo = b.expo ∧ (releaseLock b).film = b.film ∧ (releaseLock
    b).pages = b.pages ∧ (releaseLock b).charges = b.charges ∧ (releaseLock b).nv = b.nv ∧ (releaseLock b).link
    = b.link ∧ (releaseLock b).stand = b.stand ∧ (releaseLock b).mem = b.mem ∧ (releaseLock b).nvCycle =
    b.nvCycle ∧ (releaseLock b).resetPin = b.resetPin ∧ (releaseLock b).supplyLow = b.supplyLow ∧ (releaseLock
    b).freeCount = b.freeCount := by
  unfold releaseLock
  (try dsimp only)
  (repeat' split) <;> simp [*]

@[simp] theorem discardLock_frame (n : Fin 24) (b : Block) :
    (discardLock n b).gate = b.gate ∧ (discardLock n b).expo = b.expo ∧ (discardLock n b).film = b.film ∧
    (discardLock n b).pages = b.pages ∧ (discardLock n b).charges = b.charges ∧ (discardLock n b).nv = b.nv ∧
    (discardLock n b).link = b.link ∧ (discardLock n b).path = b.path ∧ (discardLock n b).stand = b.stand ∧
    (discardLock n b).mem = b.mem ∧ (discardLock n b).nvCycle = b.nvCycle ∧ (discardLock n b).resetPin =
    b.resetPin ∧ (discardLock n b).supplyLow = b.supplyLow ∧ (discardLock n b).freeCount = b.freeCount := by
  unfold discardLock
  (try dsimp only)
  (repeat' split) <;> simp [*]

@[simp] theorem orderControlRead_frame (n : Fin 24) (b : Block) :
    (orderControlRead n b).gate = b.gate ∧ (orderControlRead n b).expo = b.expo ∧ (orderControlRead n b).film =
    b.film ∧ (orderControlRead n b).pages = b.pages ∧ (orderControlRead n b).charges = b.charges ∧
    (orderControlRead n b).nv = b.nv ∧ (orderControlRead n b).link = b.link ∧ (orderControlRead n b).stand =
    b.stand ∧ (orderControlRead n b).mem = b.mem ∧ (orderControlRead n b).nvCycle = b.nvCycle ∧
    (orderControlRead n b).resetPin = b.resetPin ∧ (orderControlRead n b).supplyLow = b.supplyLow ∧
    (orderControlRead n b).freeCount = b.freeCount := by
  unfold orderControlRead
  (try dsimp only)
  (repeat' split) <;> simp [*]

@[simp] theorem orderControlTake_frame (n : Fin 24) (v : Word) (b : Block) :
    (orderControlTake n v b).gate = b.gate ∧ (orderControlTake n v b).expo = b.expo ∧ (orderControlTake n v
    b).film = b.film ∧ (orderControlTake n v b).pages = b.pages ∧ (orderControlTake n v b).charges = b.charges ∧
    (orderControlTake n v b).nv = b.nv ∧ (orderControlTake n v b).link = b.link ∧ (orderControlTake n v b).mem =
    b.mem ∧ (orderControlTake n v b).nvCycle = b.nvCycle ∧ (orderControlTake n v b).resetPin = b.resetPin ∧
    (orderControlTake n v b).supplyLow = b.supplyLow ∧ (orderControlTake n v b).freeCount = b.freeCount := by
  unfold orderControlTake
  (try dsimp only)
  (repeat' split) <;> simp [*]

@[simp] theorem defer_frame (d : Deferred) (b : Block) :
    (defer d b).gate = b.gate ∧ (defer d b).expo = b.expo ∧ (defer d b).film = b.film ∧ (defer d b).pages =
    b.pages ∧ (defer d b).charges = b.charges ∧ (defer d b).nv = b.nv ∧ (defer d b).link = b.link ∧ (defer d
    b).path = b.path ∧ (defer d b).stand = b.stand ∧ (defer d b).mem = b.mem ∧ (defer d b).nvCycle = b.nvCycle ∧
    (defer d b).resetPin = b.resetPin ∧ (defer d b).supplyLow = b.supplyLow ∧ (defer d b).freeCount =
    b.freeCount := by
  unfold defer
  (try dsimp only)
  (repeat' split) <;> simp [*]

@[simp] theorem issueBase_frame (n : Fin 24) (reason : Reason) (stamp : Option Word) (b : Block) :
    (issueBase n reason stamp b).gate = b.gate ∧ (issueBase n reason stamp b).expo = b.expo ∧ (issueBase n
    reason stamp b).film = b.film ∧ (issueBase n reason stamp b).pages = b.pages ∧ (issueBase n reason stamp
    b).charges = b.charges ∧ (issueBase n reason stamp b).nv = b.nv ∧ (issueBase n reason stamp b).link = b.link
    ∧ (issueBase n reason stamp b).stand = b.stand ∧ (issueBase n reason stamp b).mem = b.mem ∧ (issueBase n
    reason stamp b).nvCycle = b.nvCycle ∧ (issueBase n reason stamp b).resetPin = b.resetPin ∧ (issueBase n
    reason stamp b).supplyLow = b.supplyLow ∧ (issueBase n reason stamp b).freeCount = b.freeCount := by
  unfold issueBase
  (try dsimp only)
  (repeat' split) <;> simp [*]

@[simp] theorem formPass_frame (n : Fin 24) (reason : Reason) (stamp : Option Word) (b : Block) :
    (formPass n reason stamp b).gate = b.gate ∧ (formPass n reason stamp b).expo = b.expo ∧ (formPass n reason
    stamp b).film = b.film ∧ (formPass n reason stamp b).pages = b.pages ∧ (formPass n reason stamp b).charges =
    b.charges ∧ (formPass n reason stamp b).nv = b.nv ∧ (formPass n reason stamp b).link = b.link ∧ (formPass n
    reason stamp b).stand = b.stand ∧ (formPass n reason stamp b).mem = b.mem ∧ (formPass n reason stamp
    b).nvCycle = b.nvCycle ∧ (formPass n reason stamp b).resetPin = b.resetPin ∧ (formPass n reason stamp
    b).supplyLow = b.supplyLow ∧ (formPass n reason stamp b).freeCount = b.freeCount := by
  unfold formPass
  (try dsimp only)
  (repeat' split) <;> simp [*]

@[simp] theorem skipOrder_frame (n : Fin 24) (reason : Reason) (b : Block) :
    (skipOrder n reason b).gate = b.gate ∧ (skipOrder n reason b).expo = b.expo ∧ (skipOrder n reason b).film =
    b.film ∧ (skipOrder n reason b).pages = b.pages ∧ (skipOrder n reason b).charges = b.charges ∧ (skipOrder n
    reason b).nv = b.nv ∧ (skipOrder n reason b).link = b.link ∧ (skipOrder n reason b).stand = b.stand ∧
    (skipOrder n reason b).mem = b.mem ∧ (skipOrder n reason b).nvCycle = b.nvCycle ∧ (skipOrder n reason
    b).resetPin = b.resetPin ∧ (skipOrder n reason b).supplyLow = b.supplyLow ∧ (skipOrder n reason b).freeCount
    = b.freeCount := by
  unfold skipOrder
  (try dsimp only)
  (repeat' split) <;> simp [*]

@[simp] theorem haltOrder_frame (n : Fin 24) (b : Block) :
    (haltOrder n b).gate = b.gate ∧ (haltOrder n b).expo = b.expo ∧ (haltOrder n b).film = b.film ∧ (haltOrder n
    b).pages = b.pages ∧ (haltOrder n b).charges = b.charges ∧ (haltOrder n b).nv = b.nv ∧ (haltOrder n b).link
    = b.link ∧ (haltOrder n b).stand = b.stand ∧ (haltOrder n b).mem = b.mem ∧ (haltOrder n b).nvCycle =
    b.nvCycle ∧ (haltOrder n b).resetPin = b.resetPin ∧ (haltOrder n b).supplyLow = b.supplyLow ∧ (haltOrder n
    b).freeCount = b.freeCount := by
  unfold haltOrder
  (try dsimp only)
  (repeat' split) <;> simp [*]

@[simp] theorem formFromBase_frame (r : BaseRead) (base : Word) (b : Block) :
    (formFromBase r base b).gate = b.gate ∧ (formFromBase r base b).expo = b.expo ∧ (formFromBase r base b).film
    = b.film ∧ (formFromBase r base b).pages = b.pages ∧ (formFromBase r base b).charges = b.charges ∧
    (formFromBase r base b).nv = b.nv ∧ (formFromBase r base b).link = b.link ∧ (formFromBase r base b).stand =
    b.stand ∧ (formFromBase r base b).mem = b.mem ∧ (formFromBase r base b).nvCycle = b.nvCycle ∧ (formFromBase
    r base b).resetPin = b.resetPin ∧ (formFromBase r base b).supplyLow = b.supplyLow ∧ (formFromBase r base
    b).freeCount = b.freeCount := by
  unfold formFromBase
  (try dsimp only)
  (repeat' split) <;> simp [*]

@[simp] theorem beginClaim_frame (c : Claim) (phase : NvPhase) (pair : Bool) (b : Block) :
    (beginClaim c phase pair b).orders = b.orders ∧ (beginClaim c phase pair b).gate = b.gate ∧ (beginClaim c
    phase pair b).expo = b.expo ∧ (beginClaim c phase pair b).film = b.film ∧ (beginClaim c phase pair b).pages
    = b.pages ∧ (beginClaim c phase pair b).charges = b.charges ∧ (beginClaim c phase pair b).link = b.link ∧
    (beginClaim c phase pair b).path = b.path ∧ (beginClaim c phase pair b).stand = b.stand ∧ (beginClaim c
    phase pair b).mem = b.mem ∧ (beginClaim c phase pair b).nvCycle = b.nvCycle ∧ (beginClaim c phase pair
    b).resetPin = b.resetPin ∧ (beginClaim c phase pair b).supplyLow = b.supplyLow ∧ (beginClaim c phase pair
    b).freeCount = b.freeCount := by
  unfold beginClaim
  (try dsimp only)
  (repeat' split) <;> simp [*]

@[simp] theorem endClaim_frame (b : Block) :
    (endClaim b).orders = b.orders ∧ (endClaim b).gate = b.gate ∧ (endClaim b).expo = b.expo ∧ (endClaim b).film
    = b.film ∧ (endClaim b).pages = b.pages ∧ (endClaim b).charges = b.charges ∧ (endClaim b).link = b.link ∧
    (endClaim b).path = b.path ∧ (endClaim b).stand = b.stand ∧ (endClaim b).mem = b.mem ∧ (endClaim b).nvCycle
    = b.nvCycle ∧ (endClaim b).resetPin = b.resetPin ∧ (endClaim b).supplyLow = b.supplyLow ∧ (endClaim
    b).freeCount = b.freeCount := by
  unfold endClaim
  (try dsimp only)
  (repeat' split) <;> simp [*]

@[simp] theorem latchWords_frame (l : List (Nat × Word)) (b : Block) :
    (latchWords l b).orders = b.orders ∧ (latchWords l b).gate = b.gate ∧ (latchWords l b).expo = b.expo ∧
    (latchWords l b).film = b.film ∧ (latchWords l b).pages = b.pages ∧ (latchWords l b).charges = b.charges ∧
    (latchWords l b).link = b.link ∧ (latchWords l b).path = b.path ∧ (latchWords l b).stand = b.stand ∧
    (latchWords l b).mem = b.mem ∧ (latchWords l b).nvCycle = b.nvCycle ∧ (latchWords l b).resetPin = b.resetPin
    ∧ (latchWords l b).supplyLow = b.supplyLow ∧ (latchWords l b).freeCount = b.freeCount := by
  unfold latchWords
  (try dsimp only)
  (repeat' split) <;> simp [*]

@[simp] theorem takeControllerClaim_frame (b : Block) :
    (takeControllerClaim b).orders = b.orders ∧ (takeControllerClaim b).gate = b.gate ∧ (takeControllerClaim
    b).expo = b.expo ∧ (takeControllerClaim b).film = b.film ∧ (takeControllerClaim b).pages = b.pages ∧
    (takeControllerClaim b).charges = b.charges ∧ (takeControllerClaim b).link = b.link ∧ (takeControllerClaim
    b).mem = b.mem ∧ (takeControllerClaim b).nvCycle = b.nvCycle ∧ (takeControllerClaim b).resetPin = b.resetPin
    ∧ (takeControllerClaim b).supplyLow = b.supplyLow ∧ (takeControllerClaim b).freeCount = b.freeCount := by
  unfold takeControllerClaim
  (try dsimp only)
  (repeat' split) <;> simp [*]

@[simp] theorem takePartClaim_frame (b : Block) :
    (takePartClaim b).orders = b.orders ∧ (takePartClaim b).gate = b.gate ∧ (takePartClaim b).expo = b.expo ∧
    (takePartClaim b).film = b.film ∧ (takePartClaim b).pages = b.pages ∧ (takePartClaim b).link = b.link ∧
    (takePartClaim b).stand = b.stand ∧ (takePartClaim b).mem = b.mem ∧ (takePartClaim b).nvCycle = b.nvCycle ∧
    (takePartClaim b).resetPin = b.resetPin ∧ (takePartClaim b).supplyLow = b.supplyLow ∧ (takePartClaim
    b).freeCount = b.freeCount := by
  unfold takePartClaim
  (try dsimp only)
  (repeat' split) <;> simp [*]

@[simp] theorem nvTake_frame (b : Block) :
    (nvTake b).orders = b.orders ∧ (nvTake b).gate = b.gate ∧ (nvTake b).expo = b.expo ∧ (nvTake b).film =
    b.film ∧ (nvTake b).pages = b.pages ∧ (nvTake b).link = b.link ∧ (nvTake b).mem = b.mem ∧ (nvTake b).nvCycle
    = b.nvCycle ∧ (nvTake b).resetPin = b.resetPin ∧ (nvTake b).supplyLow = b.supplyLow ∧ (nvTake b).freeCount =
    b.freeCount := by
  unfold nvTake
  (try dsimp only)
  (repeat' split) <;> simp [*]

@[simp] theorem drawFree_frame (b : Block) :
    (drawFree b).orders = b.orders ∧ (drawFree b).gate = b.gate ∧ (drawFree b).expo = b.expo ∧ (drawFree b).film
    = b.film ∧ (drawFree b).pages = b.pages ∧ (drawFree b).charges = b.charges ∧ (drawFree b).nv = b.nv ∧
    (drawFree b).link = b.link ∧ (drawFree b).path = b.path ∧ (drawFree b).stand = b.stand ∧ (drawFree b).mem =
    b.mem ∧ (drawFree b).nvCycle = b.nvCycle ∧ (drawFree b).resetPin = b.resetPin ∧ (drawFree b).supplyLow =
    b.supplyLow := by
  unfold drawFree
  (try dsimp only)
  (repeat' split) <;> simp [*]

@[simp] theorem portFreed_frame (b : Block) :
    (portFreed b).orders = b.orders ∧ (portFreed b).gate = b.gate ∧ (portFreed b).expo = b.expo ∧ (portFreed b).film =
    b.film ∧ (portFreed b).pages = b.pages ∧ (portFreed b).link = b.link ∧ (portFreed b).mem = b.mem ∧ (portFreed
    b).nvCycle = b.nvCycle ∧ (portFreed b).resetPin = b.resetPin ∧ (portFreed b).supplyLow = b.supplyLow := by
  unfold portFreed
  (try dsimp only)
  (repeat' split) <;> simp [*]

@[simp] theorem settle_frame (b : Block) :
    (settle b).gate = b.gate ∧ (settle b).film = b.film ∧ (settle b).pages = b.pages ∧ (settle b).link = b.link
    ∧ (settle b).resetPin = b.resetPin ∧ (settle b).supplyLow = b.supplyLow ∧ (settle b).freeCount = b.freeCount := by
  unfold settle
  (try dsimp only)
  (repeat' split) <;> simp [*]

@[simp] theorem nvAccess_frame (a : Access) (b : Block) :
    (nvAccess a b).orders = b.orders ∧ (nvAccess a b).gate = b.gate ∧ (nvAccess a b).expo = b.expo ∧ (nvAccess a
    b).film = b.film ∧ (nvAccess a b).pages = b.pages ∧ (nvAccess a b).charges = b.charges ∧ (nvAccess a b).nv =
    b.nv ∧ (nvAccess a b).link = b.link ∧ (nvAccess a b).stand = b.stand ∧ (nvAccess a b).mem = b.mem ∧
    (nvAccess a b).nvCycle = b.nvCycle ∧ (nvAccess a b).resetPin = b.resetPin ∧ (nvAccess a b).supplyLow =
    b.supplyLow ∧ (nvAccess a b).freeCount = b.freeCount := by
  unfold nvAccess
  (try dsimp only)
  (repeat' split) <;> simp [*]

@[simp] theorem commitCycle_frame (l : List (Nat × Word)) (b : Block) :
    (commitCycle l b).orders = b.orders ∧ (commitCycle l b).gate = b.gate ∧ (commitCycle l b).expo = b.expo ∧
    (commitCycle l b).film = b.film ∧ (commitCycle l b).pages = b.pages ∧ (commitCycle l b).charges = b.charges
    ∧ (commitCycle l b).nv = b.nv ∧ (commitCycle l b).link = b.link ∧ (commitCycle l b).path = b.path ∧
    (commitCycle l b).stand = b.stand ∧ (commitCycle l b).resetPin = b.resetPin ∧ (commitCycle l b).supplyLow =
    b.supplyLow ∧ (commitCycle l b).freeCount = b.freeCount := by
  unfold commitCycle
  (try dsimp only)
  (repeat' split) <;> simp [*]

@[simp] theorem beginCycle_frame (owner : Owner) (l : List (Nat × Word)) (b : Block) :
    (beginCycle owner l b).orders = b.orders ∧ (beginCycle owner l b).gate = b.gate ∧ (beginCycle owner l
    b).expo = b.expo ∧ (beginCycle owner l b).film = b.film ∧ (beginCycle owner l b).pages = b.pages ∧
    (beginCycle owner l b).charges = b.charges ∧ (beginCycle owner l b).link = b.link ∧ (beginCycle owner l
    b).stand = b.stand ∧ (beginCycle owner l b).mem = b.mem ∧ (beginCycle owner l b).nvCycle = b.nvCycle ∧
    (beginCycle owner l b).resetPin = b.resetPin ∧ (beginCycle owner l b).supplyLow = b.supplyLow ∧ (beginCycle
    owner l b).freeCount = b.freeCount := by
  unfold beginCycle
  (try dsimp only)
  (repeat' split) <;> simp [*]

@[simp] theorem ctlNvReadDone_frame (got : List Word) (b : Block) :
    (ctlNvReadDone got b).orders = b.orders ∧ (ctlNvReadDone got b).gate = b.gate ∧ (ctlNvReadDone got b).expo =
    b.expo ∧ (ctlNvReadDone got b).film = b.film ∧ (ctlNvReadDone got b).pages = b.pages ∧ (ctlNvReadDone got
    b).charges = b.charges ∧ (ctlNvReadDone got b).link = b.link ∧ (ctlNvReadDone got b).stand = b.stand ∧
    (ctlNvReadDone got b).mem = b.mem ∧ (ctlNvReadDone got b).nvCycle = b.nvCycle ∧ (ctlNvReadDone got
    b).resetPin = b.resetPin ∧ (ctlNvReadDone got b).supplyLow = b.supplyLow ∧ (ctlNvReadDone got b).freeCount =
    b.freeCount := by
  unfold ctlNvReadDone
  (try dsimp only)
  (repeat' split) <;> simp [*]

@[simp] theorem accountReadDone_frame (got : List Word) (b : Block) :
    (accountReadDone got b).orders = b.orders ∧ (accountReadDone got b).gate = b.gate ∧ (accountReadDone got
    b).expo = b.expo ∧ (accountReadDone got b).film = b.film ∧ (accountReadDone got b).pages = b.pages ∧
    (accountReadDone got b).charges = b.charges ∧ (accountReadDone got b).link = b.link ∧ (accountReadDone got
    b).stand = b.stand ∧ (accountReadDone got b).mem = b.mem ∧ (accountReadDone got b).nvCycle = b.nvCycle ∧
    (accountReadDone got b).resetPin = b.resetPin ∧ (accountReadDone got b).supplyLow = b.supplyLow ∧
    (accountReadDone got b).freeCount = b.freeCount := by
  unfold accountReadDone
  (try dsimp only)
  (repeat' split) <;> simp [*]

@[simp] theorem openOp_frame (b : Block) :
    (openOp b).orders = b.orders ∧ (openOp b).gate = b.gate ∧ (openOp b).expo = b.expo ∧ (openOp b).film =
    b.film ∧ (openOp b).pages = b.pages ∧ (openOp b).charges = b.charges ∧ (openOp b).link = b.link ∧ (openOp
    b).path = b.path ∧ (openOp b).stand = b.stand ∧ (openOp b).mem = b.mem ∧ (openOp b).nvCycle = b.nvCycle ∧
    (openOp b).resetPin = b.resetPin ∧ (openOp b).supplyLow = b.supplyLow ∧ (openOp b).freeCount = b.freeCount := by
  unfold openOp
  (try dsimp only)
  (repeat' split) <;> simp [*]

@[simp] theorem endFill_frame (st : FillState) (b : Block) :
    (endFill st b).orders = b.orders ∧ (endFill st b).gate = b.gate ∧ (endFill st b).expo = b.expo ∧ (endFill st
    b).film = b.film ∧ (endFill st b).pages = b.pages ∧ (endFill st b).charges = b.charges ∧ (endFill st b).link
    = b.link ∧ (endFill st b).path = b.path ∧ (endFill st b).mem = b.mem ∧ (endFill st b).nvCycle = b.nvCycle ∧
    (endFill st b).resetPin = b.resetPin ∧ (endFill st b).supplyLow = b.supplyLow ∧ (endFill st b).freeCount =
    b.freeCount := by
  unfold endFill
  (try dsimp only)
  (repeat' split) <;> simp [*]

@[simp] theorem closeOp_frame (b : Block) :
    (closeOp b).orders = b.orders ∧ (closeOp b).gate = b.gate ∧ (closeOp b).expo = b.expo ∧ (closeOp b).film =
    b.film ∧ (closeOp b).pages = b.pages ∧ (closeOp b).charges = b.charges ∧ (closeOp b).link = b.link ∧
    (closeOp b).path = b.path ∧ (closeOp b).mem = b.mem ∧ (closeOp b).nvCycle = b.nvCycle ∧ (closeOp b).resetPin
    = b.resetPin ∧ (closeOp b).supplyLow = b.supplyLow ∧ (closeOp b).freeCount = b.freeCount := by
  unfold closeOp
  (try dsimp only)
  (repeat' split) <;> simp [*]

@[simp] theorem fillOp_frame (b : Block) :
    (fillOp b).orders = b.orders ∧ (fillOp b).gate = b.gate ∧ (fillOp b).expo = b.expo ∧ (fillOp b).film =
    b.film ∧ (fillOp b).pages = b.pages ∧ (fillOp b).charges = b.charges ∧ (fillOp b).link = b.link ∧ (fillOp
    b).mem = b.mem ∧ (fillOp b).nvCycle = b.nvCycle ∧ (fillOp b).resetPin = b.resetPin ∧ (fillOp b).supplyLow =
    b.supplyLow ∧ (fillOp b).freeCount = b.freeCount := by
  unfold fillOp
  (try dsimp only)
  (repeat' split) <;> simp [*]

@[simp] theorem openingWrite_frame (high : Bool) (v : Word) (b : Block) :
    (openingWrite high v b).orders = b.orders ∧ (openingWrite high v b).gate = b.gate ∧ (openingWrite high v
    b).expo = b.expo ∧ (openingWrite high v b).film = b.film ∧ (openingWrite high v b).pages = b.pages ∧
    (openingWrite high v b).charges = b.charges ∧ (openingWrite high v b).link = b.link ∧ (openingWrite high v
    b).path = b.path ∧ (openingWrite high v b).stand = b.stand ∧ (openingWrite high v b).mem = b.mem ∧
    (openingWrite high v b).nvCycle = b.nvCycle ∧ (openingWrite high v b).resetPin = b.resetPin ∧ (openingWrite
    high v b).supplyLow = b.supplyLow ∧ (openingWrite high v b).freeCount = b.freeCount := by
  unfold openingWrite
  (try dsimp only)
  (repeat' split) <;> simp [*]

@[simp] theorem fillReadDone_frame (got : List Word) (b : Block) :
    (fillReadDone got b).orders = b.orders ∧ (fillReadDone got b).gate = b.gate ∧ (fillReadDone got b).expo =
    b.expo ∧ (fillReadDone got b).film = b.film ∧ (fillReadDone got b).pages = b.pages ∧ (fillReadDone got
    b).charges = b.charges ∧ (fillReadDone got b).link = b.link ∧ (fillReadDone got b).stand = b.stand ∧
    (fillReadDone got b).mem = b.mem ∧ (fillReadDone got b).nvCycle = b.nvCycle ∧ (fillReadDone got b).resetPin
    = b.resetPin ∧ (fillReadDone got b).supplyLow = b.supplyLow ∧ (fillReadDone got b).freeCount = b.freeCount := by
  unfold fillReadDone
  (try dsimp only)
  (repeat' split) <;> simp [*]

@[simp] theorem fillStepDone_frame (b : Block) :
    (fillStepDone b).orders = b.orders ∧ (fillStepDone b).gate = b.gate ∧ (fillStepDone b).expo = b.expo ∧
    (fillStepDone b).film = b.film ∧ (fillStepDone b).pages = b.pages ∧ (fillStepDone b).charges = b.charges ∧
    (fillStepDone b).link = b.link ∧ (fillStepDone b).path = b.path ∧ (fillStepDone b).mem = b.mem ∧
    (fillStepDone b).nvCycle = b.nvCycle ∧ (fillStepDone b).resetPin = b.resetPin ∧ (fillStepDone b).supplyLow =
    b.supplyLow ∧ (fillStepDone b).freeCount = b.freeCount := by
  unfold fillStepDone
  (try dsimp only)
  (repeat' split) <;> simp [*]


end Sys2Proof.Machine
end

