-- ==== Sys2Proof/Laws/FramesPages.lean ====
section
/-! SUPPORT. What each operation leaves as it is: the Page Unit, the Label Engine, the Printer Link, the Film Transport. -/

set_option linter.unusedTactic false
set_option linter.unnecessarySeqFocus false
set_option linter.unreachableTactic false

namespace Sys2Proof.Machine

@[simp] theorem withPage_frame (p : Fin 4) (g : Page → Page) (b : Block) :
    (withPage p g b).orders = b.orders ∧ (withPage p g b).gate = b.gate ∧ (withPage p g b).expo = b.expo ∧
    (withPage p g b).film = b.film ∧ (withPage p g b).charges = b.charges ∧ (withPage p g b).nv = b.nv ∧
    (withPage p g b).link = b.link ∧ (withPage p g b).path = b.path ∧ (withPage p g b).stand = b.stand ∧
    (withPage p g b).mem = b.mem ∧ (withPage p g b).nvCycle = b.nvCycle ∧ (withPage p g b).resetPin = b.resetPin
    ∧ (withPage p g b).supplyLow = b.supplyLow ∧ (withPage p g b).freeCount = b.freeCount := by
  unfold withPage
  (try dsimp only)
  (repeat' split) <;> simp [*]

@[simp] theorem withFrame_frame (p : Fin 4) (f : Fin 72) (g : Frame → Frame) (b : Block) :
    (withFrame p f g b).orders = b.orders ∧ (withFrame p f g b).gate = b.gate ∧ (withFrame p f g b).expo =
    b.expo ∧ (withFrame p f g b).film = b.film ∧ (withFrame p f g b).charges = b.charges ∧ (withFrame p f g
    b).nv = b.nv ∧ (withFrame p f g b).link = b.link ∧ (withFrame p f g b).path = b.path ∧ (withFrame p f g
    b).stand = b.stand ∧ (withFrame p f g b).mem = b.mem ∧ (withFrame p f g b).nvCycle = b.nvCycle ∧ (withFrame
    p f g b).resetPin = b.resetPin ∧ (withFrame p f g b).supplyLow = b.supplyLow ∧ (withFrame p f g b).freeCount
    = b.freeCount := by
  unfold withFrame
  (try dsimp only)
  (repeat' split) <;> simp [*]

@[simp] theorem changeFrame_frame (p : Fin 4) (f : Fin 72) (g : Frame → Frame) (b : Block) :
    (changeFrame p f g b).orders = b.orders ∧ (changeFrame p f g b).gate = b.gate ∧ (changeFrame p f g b).expo =
    b.expo ∧ (changeFrame p f g b).film = b.film ∧ (changeFrame p f g b).charges = b.charges ∧ (changeFrame p f
    g b).nv = b.nv ∧ (changeFrame p f g b).link = b.link ∧ (changeFrame p f g b).stand = b.stand ∧ (changeFrame
    p f g b).mem = b.mem ∧ (changeFrame p f g b).nvCycle = b.nvCycle ∧ (changeFrame p f g b).resetPin =
    b.resetPin ∧ (changeFrame p f g b).supplyLow = b.supplyLow ∧ (changeFrame p f g b).freeCount = b.freeCount := by
  unfold changeFrame
  (try dsimp only)
  (repeat' split) <;> simp [*]

@[simp] theorem setPageState_frame (p : Fin 4) (st : PageState) (b : Block) :
    (setPageState p st b).orders = b.orders ∧ (setPageState p st b).gate = b.gate ∧ (setPageState p st b).expo =
    b.expo ∧ (setPageState p st b).film = b.film ∧ (setPageState p st b).charges = b.charges ∧ (setPageState p
    st b).nv = b.nv ∧ (setPageState p st b).link = b.link ∧ (setPageState p st b).stand = b.stand ∧
    (setPageState p st b).mem = b.mem ∧ (setPageState p st b).nvCycle = b.nvCycle ∧ (setPageState p st
    b).resetPin = b.resetPin ∧ (setPageState p st b).supplyLow = b.supplyLow ∧ (setPageState p st b).freeCount =
    b.freeCount := by
  unfold setPageState
  (try dsimp only)
  (repeat' split) <;> simp [*]

@[simp] theorem setPosition_frame (p : Fin 4) (k : Nat) (b : Block) :
    (setPosition p k b).orders = b.orders ∧ (setPosition p k b).gate = b.gate ∧ (setPosition p k b).expo =
    b.expo ∧ (setPosition p k b).film = b.film ∧ (setPosition p k b).charges = b.charges ∧ (setPosition p k
    b).nv = b.nv ∧ (setPosition p k b).link = b.link ∧ (setPosition p k b).stand = b.stand ∧ (setPosition p k
    b).mem = b.mem ∧ (setPosition p k b).nvCycle = b.nvCycle ∧ (setPosition p k b).resetPin = b.resetPin ∧
    (setPosition p k b).supplyLow = b.supplyLow ∧ (setPosition p k b).freeCount = b.freeCount := by
  unfold setPosition
  (try dsimp only)
  (repeat' split) <;> simp [*]

@[simp] theorem withUseCount_frame (t : Option (Fin 16)) (g : Nat → Nat) (b : Block) :
    (withUseCount t g b).orders = b.orders ∧ (withUseCount t g b).gate = b.gate ∧ (withUseCount t g b).expo =
    b.expo ∧ (withUseCount t g b).film = b.film ∧ (withUseCount t g b).charges = b.charges ∧ (withUseCount t g
    b).nv = b.nv ∧ (withUseCount t g b).link = b.link ∧ (withUseCount t g b).path = b.path ∧ (withUseCount t g
    b).stand = b.stand ∧ (withUseCount t g b).mem = b.mem ∧ (withUseCount t g b).nvCycle = b.nvCycle ∧
    (withUseCount t g b).resetPin = b.resetPin ∧ (withUseCount t g b).supplyLow = b.supplyLow ∧ (withUseCount t
    g b).freeCount = b.freeCount := by
  unfold withUseCount
  (try dsimp only)
  (repeat' split) <;> simp [*]

@[simp] theorem setPrintQueue_frame (q : List (Fin 4)) (b : Block) :
    (setPrintQueue q b).orders = b.orders ∧ (setPrintQueue q b).gate = b.gate ∧ (setPrintQueue q b).expo =
    b.expo ∧ (setPrintQueue q b).film = b.film ∧ (setPrintQueue q b).charges = b.charges ∧ (setPrintQueue q
    b).nv = b.nv ∧ (setPrintQueue q b).link = b.link ∧ (setPrintQueue q b).path = b.path ∧ (setPrintQueue q
    b).stand = b.stand ∧ (setPrintQueue q b).mem = b.mem ∧ (setPrintQueue q b).nvCycle = b.nvCycle ∧
    (setPrintQueue q b).resetPin = b.resetPin ∧ (setPrintQueue q b).supplyLow = b.supplyLow ∧ (setPrintQueue q
    b).freeCount = b.freeCount := by
  unfold setPrintQueue
  (try dsimp only)
  (repeat' split) <;> simp [*]

@[simp] theorem setWalk_frame (q : List (Fin 4)) (k : Nat) (b : Block) :
    (setWalk q k b).orders = b.orders ∧ (setWalk q k b).gate = b.gate ∧ (setWalk q k b).expo = b.expo ∧ (setWalk
    q k b).film = b.film ∧ (setWalk q k b).charges = b.charges ∧ (setWalk q k b).nv = b.nv ∧ (setWalk q k
    b).link = b.link ∧ (setWalk q k b).path = b.path ∧ (setWalk q k b).stand = b.stand ∧ (setWalk q k b).mem =
    b.mem ∧ (setWalk q k b).nvCycle = b.nvCycle ∧ (setWalk q k b).resetPin = b.resetPin ∧ (setWalk q k
    b).supplyLow = b.supplyLow ∧ (setWalk q k b).freeCount = b.freeCount := by
  unfold setWalk
  (try dsimp only)
  (repeat' split) <;> simp [*]

@[simp] theorem renumber_frame (b : Block) (x : Fin 4 × Nat) :
    (renumber b x).orders = b.orders ∧ (renumber b x).gate = b.gate ∧ (renumber b x).expo = b.expo ∧ (renumber b
    x).film = b.film ∧ (renumber b x).charges = b.charges ∧ (renumber b x).nv = b.nv ∧ (renumber b x).link =
    b.link ∧ (renumber b x).stand = b.stand ∧ (renumber b x).mem = b.mem ∧ (renumber b x).nvCycle = b.nvCycle ∧
    (renumber b x).resetPin = b.resetPin ∧ (renumber b x).supplyLow = b.supplyLow ∧ (renumber b x).freeCount =
    b.freeCount := by
  unfold renumber
  (try dsimp only)
  (repeat' split) <;> simp [*]

@[simp] theorem leaveQueue_frame (p : Fin 4) (b : Block) :
    (leaveQueue p b).orders = b.orders ∧ (leaveQueue p b).gate = b.gate ∧ (leaveQueue p b).expo = b.expo ∧
    (leaveQueue p b).film = b.film ∧ (leaveQueue p b).charges = b.charges ∧ (leaveQueue p b).nv = b.nv ∧
    (leaveQueue p b).link = b.link ∧ (leaveQueue p b).stand = b.stand ∧ (leaveQueue p b).mem = b.mem ∧
    (leaveQueue p b).nvCycle = b.nvCycle ∧ (leaveQueue p b).resetPin = b.resetPin ∧ (leaveQueue p b).supplyLow =
    b.supplyLow ∧ (leaveQueue p b).freeCount = b.freeCount := by
  refine ⟨?_, ?_, ?_, ?_, ?_, ?_, ?_, ?_, ?_, ?_, ?_, ?_, ?_⟩
  · simp [leaveQueue, foldl_keeps (fun b : Block => b.orders) renumber (by simp)]
  · simp [leaveQueue, foldl_keeps (fun b : Block => b.gate) renumber (by simp)]
  · simp [leaveQueue, foldl_keeps (fun b : Block => b.expo) renumber (by simp)]
  · simp [leaveQueue, foldl_keeps (fun b : Block => b.film) renumber (by simp)]
  · simp [leaveQueue, foldl_keeps (fun b : Block => b.charges) renumber (by simp)]
  · simp [leaveQueue, foldl_keeps (fun b : Block => b.nv) renumber (by simp)]
  · simp [leaveQueue, foldl_keeps (fun b : Block => b.link) renumber (by simp)]
  · simp [leaveQueue, foldl_keeps (fun b : Block => b.stand) renumber (by simp)]
  · simp [leaveQueue, foldl_keeps (fun b : Block => b.mem) renumber (by simp)]
  · simp [leaveQueue, foldl_keeps (fun b : Block => b.nvCycle) renumber (by simp)]
  · simp [leaveQueue, foldl_keeps (fun b : Block => b.resetPin) renumber (by simp)]
  · simp [leaveQueue, foldl_keeps (fun b : Block => b.supplyLow) renumber (by simp)]
  · simp [leaveQueue, foldl_keeps (fun b : Block => b.freeCount) renumber (by simp)]

@[simp] theorem completeHead_frame (fuel : Nat) (b : Block) :
    (completeHead fuel b).orders = b.orders ∧ (completeHead fuel b).gate = b.gate ∧ (completeHead fuel b).expo =
    b.expo ∧ (completeHead fuel b).film = b.film ∧ (completeHead fuel b).charges = b.charges ∧ (completeHead
    fuel b).nv = b.nv ∧ (completeHead fuel b).link = b.link ∧ (completeHead fuel b).mem = b.mem ∧ (completeHead
    fuel b).nvCycle = b.nvCycle ∧ (completeHead fuel b).resetPin = b.resetPin ∧ (completeHead fuel b).supplyLow
    = b.supplyLow ∧ (completeHead fuel b).freeCount = b.freeCount := by
  induction fuel generalizing b with
  | zero => simp [completeHead]
  | succ n ih =>
    unfold completeHead
    (try dsimp only)
    (repeat' split) <;> simp [*]

@[simp] theorem testHead_frame (b : Block) :
    (testHead b).orders = b.orders ∧ (testHead b).gate = b.gate ∧ (testHead b).expo = b.expo ∧ (testHead b).film
    = b.film ∧ (testHead b).charges = b.charges ∧ (testHead b).nv = b.nv ∧ (testHead b).link = b.link ∧
    (testHead b).mem = b.mem ∧ (testHead b).nvCycle = b.nvCycle ∧ (testHead b).resetPin = b.resetPin ∧ (testHead
    b).supplyLow = b.supplyLow ∧ (testHead b).freeCount = b.freeCount := by
  unfold testHead
  (try dsimp only)
  (repeat' split) <;> simp [*]

@[simp] theorem sendFrame_frame (p : Fin 4) (f : Fin 72) (b : Block) :
    (sendFrame p f b).orders = b.orders ∧ (sendFrame p f b).gate = b.gate ∧ (sendFrame p f b).expo = b.expo ∧
    (sendFrame p f b).film = b.film ∧ (sendFrame p f b).charges = b.charges ∧ (sendFrame p f b).nv = b.nv ∧
    (sendFrame p f b).stand = b.stand ∧ (sendFrame p f b).mem = b.mem ∧ (sendFrame p f b).nvCycle = b.nvCycle ∧
    (sendFrame p f b).resetPin = b.resetPin ∧ (sendFrame p f b).supplyLow = b.supplyLow ∧ (sendFrame p f
    b).freeCount = b.freeCount := by
  unfold sendFrame
  (try dsimp only)
  (repeat' split) <;> simp [*]

@[simp] theorem selectFrame_frame (b : Block) :
    (selectFrame b).orders = b.orders ∧ (selectFrame b).gate = b.gate ∧ (selectFrame b).expo = b.expo ∧
    (selectFrame b).film = b.film ∧ (selectFrame b).charges = b.charges ∧ (selectFrame b).nv = b.nv ∧
    (selectFrame b).stand = b.stand ∧ (selectFrame b).mem = b.mem ∧ (selectFrame b).nvCycle = b.nvCycle ∧
    (selectFrame b).resetPin = b.resetPin ∧ (selectFrame b).supplyLow = b.supplyLow ∧ (selectFrame b).freeCount
    = b.freeCount := by
  unfold selectFrame
  (try dsimp only)
  (repeat' split) <;> simp [*]

@[simp] theorem queuePosting_frame (p : Posting) (b : Block) :
    (queuePosting p b).orders = b.orders ∧ (queuePosting p b).gate = b.gate ∧ (queuePosting p b).expo = b.expo ∧
    (queuePosting p b).film = b.film ∧ (queuePosting p b).pages = b.pages ∧ (queuePosting p b).nv = b.nv ∧
    (queuePosting p b).link = b.link ∧ (queuePosting p b).path = b.path ∧ (queuePosting p b).stand = b.stand ∧
    (queuePosting p b).mem = b.mem ∧ (queuePosting p b).nvCycle = b.nvCycle ∧ (queuePosting p b).resetPin =
    b.resetPin ∧ (queuePosting p b).supplyLow = b.supplyLow ∧ (queuePosting p b).freeCount = b.freeCount := by
  unfold queuePosting
  (try dsimp only)
  (repeat' split) <;> simp [*]

@[simp] theorem spoilFrame_frame (p : Fin 4) (f : Fin 72) (b : Block) :
    (spoilFrame p f b).orders = b.orders ∧ (spoilFrame p f b).gate = b.gate ∧ (spoilFrame p f b).expo = b.expo ∧
    (spoilFrame p f b).film = b.film ∧ (spoilFrame p f b).nv = b.nv ∧ (spoilFrame p f b).link = b.link ∧
    (spoilFrame p f b).stand = b.stand ∧ (spoilFrame p f b).mem = b.mem ∧ (spoilFrame p f b).nvCycle = b.nvCycle
    ∧ (spoilFrame p f b).resetPin = b.resetPin ∧ (spoilFrame p f b).supplyLow = b.supplyLow ∧ (spoilFrame p f
    b).freeCount = b.freeCount := by
  unfold spoilFrame
  (try dsimp only)
  (repeat' split) <;> simp [*]

@[simp] theorem endWalk_frame (p : Fin 4) (rest : List (Fin 4)) (b : Block) :
    (endWalk p rest b).orders = b.orders ∧ (endWalk p rest b).gate = b.gate ∧ (endWalk p rest b).expo = b.expo ∧
    (endWalk p rest b).film = b.film ∧ (endWalk p rest b).charges = b.charges ∧ (endWalk p rest b).nv = b.nv ∧
    (endWalk p rest b).link = b.link ∧ (endWalk p rest b).mem = b.mem ∧ (endWalk p rest b).nvCycle = b.nvCycle ∧
    (endWalk p rest b).resetPin = b.resetPin ∧ (endWalk p rest b).supplyLow = b.supplyLow ∧ (endWalk p rest
    b).freeCount = b.freeCount := by
  unfold endWalk
  (try dsimp only)
  (repeat' split) <;> simp [*]

@[simp] theorem walkOn_frame (fuel : Nat) (b : Block) :
    (walkOn fuel b).orders = b.orders ∧ (walkOn fuel b).gate = b.gate ∧ (walkOn fuel b).expo = b.expo ∧ (walkOn
    fuel b).film = b.film ∧ (walkOn fuel b).nv = b.nv ∧ (walkOn fuel b).link = b.link ∧ (walkOn fuel b).mem =
    b.mem ∧ (walkOn fuel b).nvCycle = b.nvCycle ∧ (walkOn fuel b).resetPin = b.resetPin ∧ (walkOn fuel
    b).supplyLow = b.supplyLow ∧ (walkOn fuel b).freeCount = b.freeCount := by
  induction fuel generalizing b with
  | zero => simp [walkOn]
  | succ n ih =>
    unfold walkOn
    (try dsimp only)
    (repeat' split) <;> simp [*]

@[simp] theorem walk_frame (b : Block) :
    (walk b).orders = b.orders ∧ (walk b).gate = b.gate ∧ (walk b).expo = b.expo ∧ (walk b).film = b.film ∧
    (walk b).nv = b.nv ∧ (walk b).link = b.link ∧ (walk b).mem = b.mem ∧ (walk b).nvCycle = b.nvCycle ∧ (walk
    b).resetPin = b.resetPin ∧ (walk b).supplyLow = b.supplyLow ∧ (walk b).freeCount = b.freeCount := by
  unfold walk
  simp

@[simp] theorem returnOp_frame (p : Fin 4) (b : Block) :
    (returnOp p b).orders = b.orders ∧ (returnOp p b).gate = b.gate ∧ (returnOp p b).expo = b.expo ∧ (returnOp p
    b).film = b.film ∧ (returnOp p b).charges = b.charges ∧ (returnOp p b).nv = b.nv ∧ (returnOp p b).mem =
    b.mem ∧ (returnOp p b).nvCycle = b.nvCycle ∧ (returnOp p b).resetPin = b.resetPin ∧ (returnOp p b).supplyLow
    = b.supplyLow ∧ (returnOp p b).freeCount = b.freeCount := by
  unfold returnOp
  (try dsimp only)
  (repeat' split) <;> simp [*]

@[simp] theorem joinWalk_frame (p : Fin 4) (b : Block) :
    (joinWalk p b).orders = b.orders ∧ (joinWalk p b).gate = b.gate ∧ (joinWalk p b).expo = b.expo ∧ (joinWalk p
    b).film = b.film ∧ (joinWalk p b).nv = b.nv ∧ (joinWalk p b).link = b.link ∧ (joinWalk p b).mem = b.mem ∧
    (joinWalk p b).nvCycle = b.nvCycle ∧ (joinWalk p b).resetPin = b.resetPin ∧ (joinWalk p b).supplyLow =
    b.supplyLow ∧ (joinWalk p b).freeCount = b.freeCount := by
  unfold joinWalk
  (try dsimp only)
  (repeat' split) <;> simp [*]

@[simp] theorem discardOp_frame (p : Fin 4) (b : Block) :
    (discardOp p b).orders = b.orders ∧ (discardOp p b).gate = b.gate ∧ (discardOp p b).expo = b.expo ∧
    (discardOp p b).film = b.film ∧ (discardOp p b).nv = b.nv ∧ (discardOp p b).mem = b.mem ∧ (discardOp p
    b).nvCycle = b.nvCycle ∧ (discardOp p b).resetPin = b.resetPin ∧ (discardOp p b).supplyLow = b.supplyLow ∧
    (discardOp p b).freeCount = b.freeCount := by
  unfold discardOp
  (try dsimp only)
  (repeat' split) <;> simp [*]

@[simp] theorem spoilOp_frame (p : Fin 4) (f : Fin 72) (b : Block) :
    (spoilOp p f b).orders = b.orders ∧ (spoilOp p f b).gate = b.gate ∧ (spoilOp p f b).expo = b.expo ∧ (spoilOp
    p f b).film = b.film ∧ (spoilOp p f b).nv = b.nv ∧ (spoilOp p f b).mem = b.mem ∧ (spoilOp p f b).nvCycle =
    b.nvCycle ∧ (spoilOp p f b).resetPin = b.resetPin ∧ (spoilOp p f b).supplyLow = b.supplyLow ∧ (spoilOp p f
    b).freeCount = b.freeCount := by
  unfold spoilOp
  (try dsimp only)
  (repeat' split) <;> simp [*]

@[simp] theorem reprintOp_frame (p : Fin 4) (f : Fin 72) (b : Block) :
    (reprintOp p f b).orders = b.orders ∧ (reprintOp p f b).gate = b.gate ∧ (reprintOp p f b).expo = b.expo ∧
    (reprintOp p f b).film = b.film ∧ (reprintOp p f b).charges = b.charges ∧ (reprintOp p f b).nv = b.nv ∧
    (reprintOp p f b).mem = b.mem ∧ (reprintOp p f b).nvCycle = b.nvCycle ∧ (reprintOp p f b).resetPin =
    b.resetPin ∧ (reprintOp p f b).supplyLow = b.supplyLow ∧ (reprintOp p f b).freeCount = b.freeCount := by
  unfold reprintOp
  (try dsimp only)
  (repeat' split) <;> simp [*]

@[simp] theorem printFrame_frame (p : Fin 4) (f : Fin 72) (b : Block) :
    (printFrame p f b).orders = b.orders ∧ (printFrame p f b).gate = b.gate ∧ (printFrame p f b).expo = b.expo ∧
    (printFrame p f b).film = b.film ∧ (printFrame p f b).charges = b.charges ∧ (printFrame p f b).nv = b.nv ∧
    (printFrame p f b).link = b.link ∧ (printFrame p f b).mem = b.mem ∧ (printFrame p f b).nvCycle = b.nvCycle ∧
    (printFrame p f b).resetPin = b.resetPin ∧ (printFrame p f b).supplyLow = b.supplyLow ∧ (printFrame p f
    b).freeCount = b.freeCount := by
  unfold printFrame
  (try dsimp only)
  (repeat' split) <;> simp [*]

@[simp] theorem acceptOp_frame (p : Fin 4) (f : Fin 72) (b : Block) :
    (acceptOp p f b).orders = b.orders ∧ (acceptOp p f b).gate = b.gate ∧ (acceptOp p f b).expo = b.expo ∧
    (acceptOp p f b).film = b.film ∧ (acceptOp p f b).charges = b.charges ∧ (acceptOp p f b).nv = b.nv ∧
    (acceptOp p f b).mem = b.mem ∧ (acceptOp p f b).nvCycle = b.nvCycle ∧ (acceptOp p f b).resetPin = b.resetPin
    ∧ (acceptOp p f b).supplyLow = b.supplyLow ∧ (acceptOp p f b).freeCount = b.freeCount := by
  unfold acceptOp
  (try dsimp only)
  (repeat' split) <;> simp [*]

@[simp] theorem templateWrite_frame (t : Fin 16) (k : Fin 32) (v : Word) (b : Block) :
    (templateWrite t k v b).orders = b.orders ∧ (templateWrite t k v b).gate = b.gate ∧ (templateWrite t k v
    b).expo = b.expo ∧ (templateWrite t k v b).film = b.film ∧ (templateWrite t k v b).pages = b.pages ∧
    (templateWrite t k v b).charges = b.charges ∧ (templateWrite t k v b).nv = b.nv ∧ (templateWrite t k v
    b).link = b.link ∧ (templateWrite t k v b).mem = b.mem ∧ (templateWrite t k v b).nvCycle = b.nvCycle ∧
    (templateWrite t k v b).resetPin = b.resetPin ∧ (templateWrite t k v b).supplyLow = b.supplyLow ∧
    (templateWrite t k v b).freeCount = b.freeCount := by
  unfold templateWrite
  (try dsimp only)
  (repeat' split) <;> simp [*]

@[simp] theorem sendNext_frame (b : Block) :
    (sendNext b).orders = b.orders ∧ (sendNext b).gate = b.gate ∧ (sendNext b).expo = b.expo ∧ (sendNext b).film
    = b.film ∧ (sendNext b).pages = b.pages ∧ (sendNext b).charges = b.charges ∧ (sendNext b).nv = b.nv ∧
    (sendNext b).path = b.path ∧ (sendNext b).stand = b.stand ∧ (sendNext b).mem = b.mem ∧ (sendNext b).nvCycle
    = b.nvCycle ∧ (sendNext b).resetPin = b.resetPin ∧ (sendNext b).supplyLow = b.supplyLow ∧ (sendNext
    b).freeCount = b.freeCount := by
  unfold sendNext
  (try dsimp only)
  (repeat' split) <;> simp [*]

@[simp] theorem startMessage_frame (b : Block) :
    (startMessage b).orders = b.orders ∧ (startMessage b).gate = b.gate ∧ (startMessage b).expo = b.expo ∧
    (startMessage b).film = b.film ∧ (startMessage b).pages = b.pages ∧ (startMessage b).charges = b.charges ∧
    (startMessage b).nv = b.nv ∧ (startMessage b).path = b.path ∧ (startMessage b).stand = b.stand ∧
    (startMessage b).mem = b.mem ∧ (startMessage b).nvCycle = b.nvCycle ∧ (startMessage b).resetPin = b.resetPin
    ∧ (startMessage b).supplyLow = b.supplyLow ∧ (startMessage b).freeCount = b.freeCount := by
  unfold startMessage
  (try dsimp only)
  (repeat' split) <;> simp [*]

@[simp] theorem compositionDone_frame (p : Fin 4) (f : Fin 72) (got : List Word) (b : Block) :
    (compositionDone p f got b).orders = b.orders ∧ (compositionDone p f got b).gate = b.gate ∧ (compositionDone
    p f got b).expo = b.expo ∧ (compositionDone p f got b).film = b.film ∧ (compositionDone p f got b).charges =
    b.charges ∧ (compositionDone p f got b).nv = b.nv ∧ (compositionDone p f got b).path = b.path ∧
    (compositionDone p f got b).stand = b.stand ∧ (compositionDone p f got b).mem = b.mem ∧ (compositionDone p f
    got b).nvCycle = b.nvCycle ∧ (compositionDone p f got b).resetPin = b.resetPin ∧ (compositionDone p f got
    b).supplyLow = b.supplyLow ∧ (compositionDone p f got b).freeCount = b.freeCount := by
  unfold compositionDone
  (try dsimp only)
  (repeat' split) <;> simp [*]

@[simp] theorem endMessage_frame (b : Block) :
    (endMessage b).orders = b.orders ∧ (endMessage b).gate = b.gate ∧ (endMessage b).expo = b.expo ∧ (endMessage
    b).film = b.film ∧ (endMessage b).pages = b.pages ∧ (endMessage b).charges = b.charges ∧ (endMessage b).nv =
    b.nv ∧ (endMessage b).path = b.path ∧ (endMessage b).stand = b.stand ∧ (endMessage b).mem = b.mem ∧
    (endMessage b).nvCycle = b.nvCycle ∧ (endMessage b).resetPin = b.resetPin ∧ (endMessage b).supplyLow =
    b.supplyLow ∧ (endMessage b).freeCount = b.freeCount := by
  unfold endMessage
  (try dsimp only)
  (repeat' split) <;> simp [*]

@[simp] theorem stopBitEnd_frame (b : Block) :
    (stopBitEnd b).orders = b.orders ∧ (stopBitEnd b).gate = b.gate ∧ (stopBitEnd b).expo = b.expo ∧ (stopBitEnd
    b).film = b.film ∧ (stopBitEnd b).pages = b.pages ∧ (stopBitEnd b).charges = b.charges ∧ (stopBitEnd b).nv =
    b.nv ∧ (stopBitEnd b).path = b.path ∧ (stopBitEnd b).stand = b.stand ∧ (stopBitEnd b).mem = b.mem ∧
    (stopBitEnd b).nvCycle = b.nvCycle ∧ (stopBitEnd b).resetPin = b.resetPin ∧ (stopBitEnd b).supplyLow =
    b.supplyLow ∧ (stopBitEnd b).freeCount = b.freeCount := by
  unfold stopBitEnd
  (try dsimp only)
  (repeat' split) <;> simp [*]

@[simp] theorem takeSettings_frame (b : Block) :
    (takeSettings b).orders = b.orders ∧ (takeSettings b).gate = b.gate ∧ (takeSettings b).expo = b.expo ∧
    (takeSettings b).film = b.film ∧ (takeSettings b).pages = b.pages ∧ (takeSettings b).charges = b.charges ∧
    (takeSettings b).nv = b.nv ∧ (takeSettings b).path = b.path ∧ (takeSettings b).stand = b.stand ∧
    (takeSettings b).mem = b.mem ∧ (takeSettings b).nvCycle = b.nvCycle ∧ (takeSettings b).resetPin = b.resetPin
    ∧ (takeSettings b).supplyLow = b.supplyLow ∧ (takeSettings b).freeCount = b.freeCount := by
  unfold takeSettings
  (try dsimp only)
  (repeat' split) <;> simp [*]

@[simp] theorem takePending_frame (b : Block) :
    (takePending b).orders = b.orders ∧ (takePending b).gate = b.gate ∧ (takePending b).expo = b.expo ∧
    (takePending b).film = b.film ∧ (takePending b).pages = b.pages ∧ (takePending b).charges = b.charges ∧
    (takePending b).nv = b.nv ∧ (takePending b).path = b.path ∧ (takePending b).stand = b.stand ∧ (takePending
    b).mem = b.mem ∧ (takePending b).nvCycle = b.nvCycle ∧ (takePending b).resetPin = b.resetPin ∧ (takePending
    b).supplyLow = b.supplyLow ∧ (takePending b).freeCount = b.freeCount := by
  unfold takePending
  (try dsimp only)
  (repeat' split) <;> simp [*]

@[simp] theorem linkLatch_frame (b : Block) :
    (linkLatch b).orders = b.orders ∧ (linkLatch b).gate = b.gate ∧ (linkLatch b).expo = b.expo ∧ (linkLatch
    b).film = b.film ∧ (linkLatch b).charges = b.charges ∧ (linkLatch b).nv = b.nv ∧ (linkLatch b).stand =
    b.stand ∧ (linkLatch b).mem = b.mem ∧ (linkLatch b).nvCycle = b.nvCycle ∧ (linkLatch b).resetPin =
    b.resetPin ∧ (linkLatch b).supplyLow = b.supplyLow ∧ (linkLatch b).freeCount = b.freeCount := by
  unfold linkLatch
  (try dsimp only)
  (repeat' split) <;> simp [*]

@[simp] theorem enterIdle_frame (b : Block) :
    (enterIdle b).orders = b.orders ∧ (enterIdle b).gate = b.gate ∧ (enterIdle b).expo = b.expo ∧ (enterIdle
    b).film = b.film ∧ (enterIdle b).charges = b.charges ∧ (enterIdle b).nv = b.nv ∧ (enterIdle b).stand =
    b.stand ∧ (enterIdle b).mem = b.mem ∧ (enterIdle b).nvCycle = b.nvCycle ∧ (enterIdle b).resetPin =
    b.resetPin ∧ (enterIdle b).supplyLow = b.supplyLow ∧ (enterIdle b).freeCount = b.freeCount := by
  unfold enterIdle
  (try dsimp only)
  (repeat' split) <;> simp [*]

@[simp] theorem stall_frame (r : StallReason) (b : Block) :
    (stall r b).orders = b.orders ∧ (stall r b).gate = b.gate ∧ (stall r b).expo = b.expo ∧ (stall r b).film =
    b.film ∧ (stall r b).pages = b.pages ∧ (stall r b).charges = b.charges ∧ (stall r b).nv = b.nv ∧ (stall r
    b).path = b.path ∧ (stall r b).mem = b.mem ∧ (stall r b).nvCycle = b.nvCycle ∧ (stall r b).resetPin =
    b.resetPin ∧ (stall r b).supplyLow = b.supplyLow ∧ (stall r b).freeCount = b.freeCount := by
  unfold stall
  (try dsimp only)
  (repeat' split) <;> simp [*]

@[simp] theorem settleFrame_frame (m : Option (Fin 4 × Fin 72)) (st : LabelState) (b : Block) :
    (settleFrame m st b).orders = b.orders ∧ (settleFrame m st b).gate = b.gate ∧ (settleFrame m st b).expo =
    b.expo ∧ (settleFrame m st b).film = b.film ∧ (settleFrame m st b).charges = b.charges ∧ (settleFrame m st
    b).nv = b.nv ∧ (settleFrame m st b).link = b.link ∧ (settleFrame m st b).stand = b.stand ∧ (settleFrame m st
    b).mem = b.mem ∧ (settleFrame m st b).nvCycle = b.nvCycle ∧ (settleFrame m st b).resetPin = b.resetPin ∧
    (settleFrame m st b).supplyLow = b.supplyLow ∧ (settleFrame m st b).freeCount = b.freeCount := by
  unfold settleFrame
  (try dsimp only)
  (repeat' split) <;> simp [*]

@[simp] theorem markErrors_frame (perr ferr : Bool) (b : Block) :
    (markErrors perr ferr b).orders = b.orders ∧ (markErrors perr ferr b).gate = b.gate ∧ (markErrors perr ferr
    b).expo = b.expo ∧ (markErrors perr ferr b).film = b.film ∧ (markErrors perr ferr b).pages = b.pages ∧
    (markErrors perr ferr b).charges = b.charges ∧ (markErrors perr ferr b).nv = b.nv ∧ (markErrors perr ferr
    b).path = b.path ∧ (markErrors perr ferr b).stand = b.stand ∧ (markErrors perr ferr b).mem = b.mem ∧
    (markErrors perr ferr b).nvCycle = b.nvCycle ∧ (markErrors perr ferr b).resetPin = b.resetPin ∧ (markErrors
    perr ferr b).supplyLow = b.supplyLow ∧ (markErrors perr ferr b).freeCount = b.freeCount := by
  unfold markErrors
  (try dsimp only)
  (repeat' split) <;> simp [*]

@[simp] theorem resend_frame (p : Fin 4) (f : Fin 72) (b : Block) :
    (resend p f b).orders = b.orders ∧ (resend p f b).gate = b.gate ∧ (resend p f b).expo = b.expo ∧ (resend p f
    b).film = b.film ∧ (resend p f b).charges = b.charges ∧ (resend p f b).nv = b.nv ∧ (resend p f b).stand =
    b.stand ∧ (resend p f b).mem = b.mem ∧ (resend p f b).nvCycle = b.nvCycle ∧ (resend p f b).resetPin =
    b.resetPin ∧ (resend p f b).supplyLow = b.supplyLow ∧ (resend p f b).freeCount = b.freeCount := by
  unfold resend
  (try dsimp only)
  (repeat' split) <;> simp [*]

@[simp] theorem rejected_frame (m : Option (Fin 4 × Fin 72)) (b : Block) :
    (rejected m b).orders = b.orders ∧ (rejected m b).gate = b.gate ∧ (rejected m b).expo = b.expo ∧ (rejected m
    b).film = b.film ∧ (rejected m b).charges = b.charges ∧ (rejected m b).nv = b.nv ∧ (rejected m b).mem =
    b.mem ∧ (rejected m b).nvCycle = b.nvCycle ∧ (rejected m b).resetPin = b.resetPin ∧ (rejected m b).supplyLow
    = b.supplyLow ∧ (rejected m b).freeCount = b.freeCount := by
  unfold rejected
  (try dsimp only)
  (repeat' split) <;> simp [*]

@[simp] theorem printed_frame (m : Option (Fin 4 × Fin 72)) (b : Block) :
    (printed m b).orders = b.orders ∧ (printed m b).gate = b.gate ∧ (printed m b).expo = b.expo ∧ (printed m
    b).film = b.film ∧ (printed m b).charges = b.charges ∧ (printed m b).nv = b.nv ∧ (printed m b).link = b.link
    ∧ (printed m b).mem = b.mem ∧ (printed m b).nvCycle = b.nvCycle ∧ (printed m b).resetPin = b.resetPin ∧
    (printed m b).supplyLow = b.supplyLow ∧ (printed m b).freeCount = b.freeCount := by
  unfold printed
  (try dsimp only)
  (repeat' split) <;> simp [*]

@[simp] theorem reply_frame (d : Byte) (perr ferr : Bool) (b : Block) :
    (reply d perr ferr b).orders = b.orders ∧ (reply d perr ferr b).gate = b.gate ∧ (reply d perr ferr b).expo =
    b.expo ∧ (reply d perr ferr b).film = b.film ∧ (reply d perr ferr b).charges = b.charges ∧ (reply d perr
    ferr b).nv = b.nv ∧ (reply d perr ferr b).mem = b.mem ∧ (reply d perr ferr b).nvCycle = b.nvCycle ∧ (reply d
    perr ferr b).resetPin = b.resetPin ∧ (reply d perr ferr b).supplyLow = b.supplyLow ∧ (reply d perr ferr
    b).freeCount = b.freeCount := by
  unfold reply
  (try dsimp only)
  (repeat' split) <;> simp [*]

@[simp] theorem strayByte_frame (perr ferr : Bool) (b : Block) :
    (strayByte perr ferr b).orders = b.orders ∧ (strayByte perr ferr b).gate = b.gate ∧ (strayByte perr ferr
    b).expo = b.expo ∧ (strayByte perr ferr b).film = b.film ∧ (strayByte perr ferr b).pages = b.pages ∧
    (strayByte perr ferr b).charges = b.charges ∧ (strayByte perr ferr b).nv = b.nv ∧ (strayByte perr ferr
    b).path = b.path ∧ (strayByte perr ferr b).stand = b.stand ∧ (strayByte perr ferr b).mem = b.mem ∧
    (strayByte perr ferr b).nvCycle = b.nvCycle ∧ (strayByte perr ferr b).resetPin = b.resetPin ∧ (strayByte
    perr ferr b).supplyLow = b.supplyLow ∧ (strayByte perr ferr b).freeCount = b.freeCount := by
  unfold strayByte
  (try dsimp only)
  (repeat' split) <;> simp [*]

@[simp] theorem arrival_frame (d : Byte) (bit stop : Bool) (b : Block) :
    (arrival d bit stop b).orders = b.orders ∧ (arrival d bit stop b).gate = b.gate ∧ (arrival d bit stop
    b).expo = b.expo ∧ (arrival d bit stop b).film = b.film ∧ (arrival d bit stop b).charges = b.charges ∧
    (arrival d bit stop b).nv = b.nv ∧ (arrival d bit stop b).mem = b.mem ∧ (arrival d bit stop b).nvCycle =
    b.nvCycle ∧ (arrival d bit stop b).resetPin = b.resetPin ∧ (arrival d bit stop b).supplyLow = b.supplyLow ∧
    (arrival d bit stop b).freeCount = b.freeCount := by
  unfold arrival
  (try dsimp only)
  (repeat' split) <;> simp [*]

@[simp] theorem replyTimeoutOp_frame (b : Block) :
    (replyTimeoutOp b).orders = b.orders ∧ (replyTimeoutOp b).gate = b.gate ∧ (replyTimeoutOp b).expo = b.expo ∧
    (replyTimeoutOp b).film = b.film ∧ (replyTimeoutOp b).charges = b.charges ∧ (replyTimeoutOp b).nv = b.nv ∧
    (replyTimeoutOp b).mem = b.mem ∧ (replyTimeoutOp b).nvCycle = b.nvCycle ∧ (replyTimeoutOp b).resetPin =
    b.resetPin ∧ (replyTimeoutOp b).supplyLow = b.supplyLow ∧ (replyTimeoutOp b).freeCount = b.freeCount := by
  unfold replyTimeoutOp
  (try dsimp only)
  (repeat' split) <;> simp [*]

@[simp] theorem clearStall_frame (b : Block) :
    (clearStall b).orders = b.orders ∧ (clearStall b).gate = b.gate ∧ (clearStall b).expo = b.expo ∧ (clearStall
    b).film = b.film ∧ (clearStall b).pages = b.pages ∧ (clearStall b).charges = b.charges ∧ (clearStall b).nv =
    b.nv ∧ (clearStall b).path = b.path ∧ (clearStall b).stand = b.stand ∧ (clearStall b).mem = b.mem ∧
    (clearStall b).nvCycle = b.nvCycle ∧ (clearStall b).resetPin = b.resetPin ∧ (clearStall b).supplyLow =
    b.supplyLow ∧ (clearStall b).freeCount = b.freeCount := by
  unfold clearStall
  (try dsimp only)
  (repeat' split) <;> simp [*]

@[simp] theorem clearAttempts_frame (p : Fin 4) (b : Block) (f : Fin 72) :
    (clearAttempts p b f).orders = b.orders ∧ (clearAttempts p b f).gate = b.gate ∧ (clearAttempts p b f).expo =
    b.expo ∧ (clearAttempts p b f).film = b.film ∧ (clearAttempts p b f).charges = b.charges ∧ (clearAttempts p
    b f).nv = b.nv ∧ (clearAttempts p b f).link = b.link ∧ (clearAttempts p b f).stand = b.stand ∧
    (clearAttempts p b f).mem = b.mem ∧ (clearAttempts p b f).nvCycle = b.nvCycle ∧ (clearAttempts p b
    f).resetPin = b.resetPin ∧ (clearAttempts p b f).supplyLow = b.supplyLow ∧ (clearAttempts p b f).freeCount =
    b.freeCount := by
  unfold clearAttempts
  (try dsimp only)
  (repeat' split) <;> simp [*]

@[simp] theorem clearHeadAttempts_frame (b : Block) :
    (clearHeadAttempts b).orders = b.orders ∧ (clearHeadAttempts b).gate = b.gate ∧ (clearHeadAttempts b).expo =
    b.expo ∧ (clearHeadAttempts b).film = b.film ∧ (clearHeadAttempts b).charges = b.charges ∧
    (clearHeadAttempts b).nv = b.nv ∧ (clearHeadAttempts b).link = b.link ∧ (clearHeadAttempts b).stand =
    b.stand ∧ (clearHeadAttempts b).mem = b.mem ∧ (clearHeadAttempts b).nvCycle = b.nvCycle ∧ (clearHeadAttempts
    b).resetPin = b.resetPin ∧ (clearHeadAttempts b).supplyLow = b.supplyLow ∧ (clearHeadAttempts b).freeCount =
    b.freeCount := by
  refine ⟨?_, ?_, ?_, ?_, ?_, ?_, ?_, ?_, ?_, ?_, ?_, ?_, ?_⟩
  · unfold clearHeadAttempts; split <;> simp [foldl_keeps (fun b : Block => b.orders) (clearAttempts _) (by simp)]
  · unfold clearHeadAttempts; split <;> simp [foldl_keeps (fun b : Block => b.gate) (clearAttempts _) (by simp)]
  · unfold clearHeadAttempts; split <;> simp [foldl_keeps (fun b : Block => b.expo) (clearAttempts _) (by simp)]
  · unfold clearHeadAttempts; split <;> simp [foldl_keeps (fun b : Block => b.film) (clearAttempts _) (by simp)]
  · unfold clearHeadAttempts; split <;> simp [foldl_keeps (fun b : Block => b.charges) (clearAttempts _) (by simp)]
  · unfold clearHeadAttempts; split <;> simp [foldl_keeps (fun b : Block => b.nv) (clearAttempts _) (by simp)]
  · unfold clearHeadAttempts; split <;> simp [foldl_keeps (fun b : Block => b.link) (clearAttempts _) (by simp)]
  · unfold clearHeadAttempts; split <;> simp [foldl_keeps (fun b : Block => b.stand) (clearAttempts _) (by simp)]
  · unfold clearHeadAttempts; split <;> simp [foldl_keeps (fun b : Block => b.mem) (clearAttempts _) (by simp)]
  · unfold clearHeadAttempts; split <;> simp [foldl_keeps (fun b : Block => b.nvCycle) (clearAttempts _) (by simp)]
  · unfold clearHeadAttempts; split <;> simp [foldl_keeps (fun b : Block => b.resetPin) (clearAttempts _) (by simp)]
  · unfold clearHeadAttempts; split <;> simp [foldl_keeps (fun b : Block => b.supplyLow) (clearAttempts _) (by simp)]
  · unfold clearHeadAttempts; split <;> simp [foldl_keeps (fun b : Block => b.freeCount) (clearAttempts _) (by simp)]

@[simp] theorem resumeOp_frame (b : Block) :
    (resumeOp b).orders = b.orders ∧ (resumeOp b).gate = b.gate ∧ (resumeOp b).expo = b.expo ∧ (resumeOp b).film
    = b.film ∧ (resumeOp b).charges = b.charges ∧ (resumeOp b).nv = b.nv ∧ (resumeOp b).mem = b.mem ∧ (resumeOp
    b).nvCycle = b.nvCycle ∧ (resumeOp b).resetPin = b.resetPin ∧ (resumeOp b).supplyLow = b.supplyLow ∧
    (resumeOp b).freeCount = b.freeCount := by
  unfold resumeOp
  (try dsimp only)
  (repeat' split) <;> simp [*]

@[simp] theorem setAside_frame (b : Block) :
    (setAside b).orders = b.orders ∧ (setAside b).gate = b.gate ∧ (setAside b).expo = b.expo ∧ (setAside b).film
    = b.film ∧ (setAside b).charges = b.charges ∧ (setAside b).nv = b.nv ∧ (setAside b).link = b.link ∧
    (setAside b).path = b.path ∧ (setAside b).stand = b.stand ∧ (setAside b).mem = b.mem ∧ (setAside b).nvCycle
    = b.nvCycle ∧ (setAside b).resetPin = b.resetPin ∧ (setAside b).supplyLow = b.supplyLow ∧ (setAside
    b).freeCount = b.freeCount := by
  unfold setAside
  (try dsimp only)
  (repeat' split) <;> simp [*]

@[simp] theorem dropMessage_frame (b : Block) :
    (dropMessage b).orders = b.orders ∧ (dropMessage b).gate = b.gate ∧ (dropMessage b).expo = b.expo ∧
    (dropMessage b).film = b.film ∧ (dropMessage b).charges = b.charges ∧ (dropMessage b).nv = b.nv ∧
    (dropMessage b).link = b.link ∧ (dropMessage b).stand = b.stand ∧ (dropMessage b).mem = b.mem ∧ (dropMessage
    b).nvCycle = b.nvCycle ∧ (dropMessage b).resetPin = b.resetPin ∧ (dropMessage b).supplyLow = b.supplyLow ∧
    (dropMessage b).freeCount = b.freeCount := by
  unfold dropMessage
  (try dsimp only)
  (repeat' split) <;> simp [*]

@[simp] theorem linkReset_frame (b : Block) :
    (linkReset b).orders = b.orders ∧ (linkReset b).gate = b.gate ∧ (linkReset b).expo = b.expo ∧ (linkReset
    b).film = b.film ∧ (linkReset b).charges = b.charges ∧ (linkReset b).nv = b.nv ∧ (linkReset b).mem = b.mem ∧
    (linkReset b).nvCycle = b.nvCycle ∧ (linkReset b).resetPin = b.resetPin ∧ (linkReset b).supplyLow =
    b.supplyLow ∧ (linkReset b).freeCount = b.freeCount := by
  unfold linkReset
  (try dsimp only)
  (repeat' split) <;> simp [*]

@[simp] theorem filmSettles_frame (st : FilmState) (interrupted : Motion) (b : Block) :
    (filmSettles st interrupted b).orders = b.orders ∧ (filmSettles st interrupted b).gate = b.gate ∧
    (filmSettles st interrupted b).expo = b.expo ∧ (filmSettles st interrupted b).pages = b.pages ∧ (filmSettles
    st interrupted b).charges = b.charges ∧ (filmSettles st interrupted b).nv = b.nv ∧ (filmSettles st
    interrupted b).link = b.link ∧ (filmSettles st interrupted b).path = b.path ∧ (filmSettles st interrupted
    b).mem = b.mem ∧ (filmSettles st interrupted b).nvCycle = b.nvCycle ∧ (filmSettles st interrupted
    b).resetPin = b.resetPin ∧ (filmSettles st interrupted b).supplyLow = b.supplyLow ∧ (filmSettles st
    interrupted b).freeCount = b.freeCount := by
  unfold filmSettles
  (try dsimp only)
  (repeat' split) <;> simp [*]

@[simp] theorem beginAdvance_frame (st : FilmState) (b : Block) :
    (beginAdvance st b).orders = b.orders ∧ (beginAdvance st b).gate = b.gate ∧ (beginAdvance st b).expo =
    b.expo ∧ (beginAdvance st b).pages = b.pages ∧ (beginAdvance st b).charges = b.charges ∧ (beginAdvance st
    b).nv = b.nv ∧ (beginAdvance st b).link = b.link ∧ (beginAdvance st b).path = b.path ∧ (beginAdvance st
    b).stand = b.stand ∧ (beginAdvance st b).mem = b.mem ∧ (beginAdvance st b).nvCycle = b.nvCycle ∧
    (beginAdvance st b).resetPin = b.resetPin ∧ (beginAdvance st b).supplyLow = b.supplyLow ∧ (beginAdvance st
    b).freeCount = b.freeCount := by
  unfold beginAdvance
  (try dsimp only)
  (repeat' split) <;> simp [*]

@[simp] theorem handOnPage_frame (b : Block) :
    (handOnPage b).orders = b.orders ∧ (handOnPage b).gate = b.gate ∧ (handOnPage b).expo = b.expo ∧ (handOnPage
    b).film = b.film ∧ (handOnPage b).charges = b.charges ∧ (handOnPage b).nv = b.nv ∧ (handOnPage b).link =
    b.link ∧ (handOnPage b).stand = b.stand ∧ (handOnPage b).mem = b.mem ∧ (handOnPage b).nvCycle = b.nvCycle ∧
    (handOnPage b).resetPin = b.resetPin ∧ (handOnPage b).supplyLow = b.supplyLow ∧ (handOnPage b).freeCount =
    b.freeCount := by
  unfold handOnPage
  (try dsimp only)
  (repeat' split) <;> simp [*]

@[simp] theorem completeRewind_frame (b : Block) :
    (completeRewind b).orders = b.orders ∧ (completeRewind b).gate = b.gate ∧ (completeRewind b).expo = b.expo ∧
    (completeRewind b).charges = b.charges ∧ (completeRewind b).nv = b.nv ∧ (completeRewind b).link = b.link ∧
    (completeRewind b).mem = b.mem ∧ (completeRewind b).nvCycle = b.nvCycle ∧ (completeRewind b).resetPin =
    b.resetPin ∧ (completeRewind b).supplyLow = b.supplyLow ∧ (completeRewind b).freeCount = b.freeCount := by
  unfold completeRewind
  (try dsimp only)
  (repeat' split) <;> simp [*]

@[simp] theorem beginRewind_frame (b : Block) :
    (beginRewind b).orders = b.orders ∧ (beginRewind b).gate = b.gate ∧ (beginRewind b).expo = b.expo ∧
    (beginRewind b).charges = b.charges ∧ (beginRewind b).nv = b.nv ∧ (beginRewind b).link = b.link ∧
    (beginRewind b).mem = b.mem ∧ (beginRewind b).nvCycle = b.nvCycle ∧ (beginRewind b).resetPin = b.resetPin ∧
    (beginRewind b).supplyLow = b.supplyLow ∧ (beginRewind b).freeCount = b.freeCount := by
  unfold beginRewind
  (try dsimp only)
  (repeat' split) <;> simp [*]

@[simp] theorem filmCommand_frame (c : FilmCommand) (b : Block) :
    (filmCommand c b).orders = b.orders ∧ (filmCommand c b).gate = b.gate ∧ (filmCommand c b).expo = b.expo ∧
    (filmCommand c b).pages = b.pages ∧ (filmCommand c b).charges = b.charges ∧ (filmCommand c b).nv = b.nv ∧
    (filmCommand c b).link = b.link ∧ (filmCommand c b).path = b.path ∧ (filmCommand c b).stand = b.stand ∧
    (filmCommand c b).mem = b.mem ∧ (filmCommand c b).nvCycle = b.nvCycle ∧ (filmCommand c b).resetPin =
    b.resetPin ∧ (filmCommand c b).supplyLow = b.supplyLow ∧ (filmCommand c b).freeCount = b.freeCount := by
  unfold filmCommand
  (try dsimp only)
  (repeat' split) <;> simp [*]

@[simp] theorem takePage_frame (p : Fin 4) (length : Nat) (b : Block) :
    (takePage p length b).orders = b.orders ∧ (takePage p length b).gate = b.gate ∧ (takePage p length b).expo =
    b.expo ∧ (takePage p length b).film = b.film ∧ (takePage p length b).charges = b.charges ∧ (takePage p
    length b).nv = b.nv ∧ (takePage p length b).link = b.link ∧ (takePage p length b).stand = b.stand ∧
    (takePage p length b).mem = b.mem ∧ (takePage p length b).nvCycle = b.nvCycle ∧ (takePage p length
    b).resetPin = b.resetPin ∧ (takePage p length b).supplyLow = b.supplyLow ∧ (takePage p length b).freeCount =
    b.freeCount := by
  unfold takePage
  (try dsimp only)
  (repeat' split) <;> simp [*]

@[simp] theorem beginLeader_frame (b : Block) :
    (beginLeader b).orders = b.orders ∧ (beginLeader b).gate = b.gate ∧ (beginLeader b).expo = b.expo ∧
    (beginLeader b).pages = b.pages ∧ (beginLeader b).charges = b.charges ∧ (beginLeader b).nv = b.nv ∧
    (beginLeader b).link = b.link ∧ (beginLeader b).path = b.path ∧ (beginLeader b).mem = b.mem ∧ (beginLeader
    b).nvCycle = b.nvCycle ∧ (beginLeader b).resetPin = b.resetPin ∧ (beginLeader b).supplyLow = b.supplyLow ∧
    (beginLeader b).freeCount = b.freeCount := by
  unfold beginLeader
  (try dsimp only)
  (repeat' split) <;> simp [*]

@[simp] theorem loadOp_frame (length : Nat) (b : Block) :
    (loadOp length b).orders = b.orders ∧ (loadOp length b).gate = b.gate ∧ (loadOp length b).expo = b.expo ∧
    (loadOp length b).charges = b.charges ∧ (loadOp length b).nv = b.nv ∧ (loadOp length b).link = b.link ∧
    (loadOp length b).mem = b.mem ∧ (loadOp length b).nvCycle = b.nvCycle ∧ (loadOp length b).resetPin =
    b.resetPin ∧ (loadOp length b).supplyLow = b.supplyLow ∧ (loadOp length b).freeCount = b.freeCount := by
  unfold loadOp
  (try dsimp only)
  (repeat' split) <;> simp [*]

@[simp] theorem unloadOp_frame (b : Block) :
    (unloadOp b).orders = b.orders ∧ (unloadOp b).gate = b.gate ∧ (unloadOp b).expo = b.expo ∧ (unloadOp
    b).charges = b.charges ∧ (unloadOp b).nv = b.nv ∧ (unloadOp b).link = b.link ∧ (unloadOp b).mem = b.mem ∧
    (unloadOp b).nvCycle = b.nvCycle ∧ (unloadOp b).resetPin = b.resetPin ∧ (unloadOp b).supplyLow = b.supplyLow
    ∧ (unloadOp b).freeCount = b.freeCount := by
  unfold unloadOp
  (try dsimp only)
  (repeat' split) <;> simp [*]

@[simp] theorem retryOp_frame (b : Block) :
    (retryOp b).orders = b.orders ∧ (retryOp b).gate = b.gate ∧ (retryOp b).expo = b.expo ∧ (retryOp b).charges
    = b.charges ∧ (retryOp b).nv = b.nv ∧ (retryOp b).link = b.link ∧ (retryOp b).mem = b.mem ∧ (retryOp
    b).nvCycle = b.nvCycle ∧ (retryOp b).resetPin = b.resetPin ∧ (retryOp b).supplyLow = b.supplyLow ∧ (retryOp
    b).freeCount = b.freeCount := by
  unfold retryOp
  (try dsimp only)
  (repeat' split) <;> simp [*]

@[simp] theorem switchClosing_frame (b : Block) :
    (switchClosing b).orders = b.orders ∧ (switchClosing b).gate = b.gate ∧ (switchClosing b).expo = b.expo ∧
    (switchClosing b).charges = b.charges ∧ (switchClosing b).nv = b.nv ∧ (switchClosing b).link = b.link ∧
    (switchClosing b).mem = b.mem ∧ (switchClosing b).nvCycle = b.nvCycle ∧ (switchClosing b).resetPin =
    b.resetPin ∧ (switchClosing b).supplyLow = b.supplyLow ∧ (switchClosing b).freeCount = b.freeCount := by
  unfold switchClosing
  (try dsimp only)
  (repeat' split) <;> simp [*]

@[simp] theorem rewindTimeoutOp_frame (b : Block) :
    (rewindTimeoutOp b).orders = b.orders ∧ (rewindTimeoutOp b).gate = b.gate ∧ (rewindTimeoutOp b).expo =
    b.expo ∧ (rewindTimeoutOp b).pages = b.pages ∧ (rewindTimeoutOp b).charges = b.charges ∧ (rewindTimeoutOp
    b).nv = b.nv ∧ (rewindTimeoutOp b).link = b.link ∧ (rewindTimeoutOp b).path = b.path ∧ (rewindTimeoutOp
    b).mem = b.mem ∧ (rewindTimeoutOp b).nvCycle = b.nvCycle ∧ (rewindTimeoutOp b).resetPin = b.resetPin ∧
    (rewindTimeoutOp b).supplyLow = b.supplyLow ∧ (rewindTimeoutOp b).freeCount = b.freeCount := by
  unfold rewindTimeoutOp
  (try dsimp only)
  (repeat' split) <;> simp [*]

@[simp] theorem senseSwitch_frame (closed : Bool) (b : Block) :
    (senseSwitch closed b).orders = b.orders ∧ (senseSwitch closed b).gate = b.gate ∧ (senseSwitch closed
    b).expo = b.expo ∧ (senseSwitch closed b).pages = b.pages ∧ (senseSwitch closed b).charges = b.charges ∧
    (senseSwitch closed b).nv = b.nv ∧ (senseSwitch closed b).link = b.link ∧ (senseSwitch closed b).path =
    b.path ∧ (senseSwitch closed b).stand = b.stand ∧ (senseSwitch closed b).mem = b.mem ∧ (senseSwitch closed
    b).nvCycle = b.nvCycle ∧ (senseSwitch closed b).resetPin = b.resetPin ∧ (senseSwitch closed b).supplyLow =
    b.supplyLow ∧ (senseSwitch closed b).freeCount = b.freeCount := by
  unfold senseSwitch
  (try dsimp only)
  (repeat' split) <;> simp [*]


end Sys2Proof.Machine
end

