-- ==== Sys2Proof/Laws/FramesGate.lean ====
section
/-! SUPPORT. What each operation leaves as it is: the Gate Engine, the Exposure Unit, the service of a step. -/

set_option linter.unusedTactic false
set_option linter.unnecessarySeqFocus false
set_option linter.unreachableTactic false

namespace Sys2Proof.Machine

@[simp] theorem standHeld_frame (b : Block) :
    (standHeld b).orders = b.orders ∧ (standHeld b).gate = b.gate ∧ (standHeld b).expo = b.expo ∧ (standHeld
    b).film = b.film ∧ (standHeld b).pages = b.pages ∧ (standHeld b).charges = b.charges ∧ (standHeld b).nv =
    b.nv ∧ (standHeld b).link = b.link ∧ (standHeld b).path = b.path ∧ (standHeld b).mem = b.mem ∧ (standHeld
    b).nvCycle = b.nvCycle ∧ (standHeld b).resetPin = b.resetPin ∧ (standHeld b).supplyLow = b.supplyLow ∧
    (standHeld b).freeCount = b.freeCount := by
  unfold standHeld
  (try dsimp only)
  (repeat' split) <;> simp [*]

@[simp] theorem completeSoftReset_frame (b : Block) :
    (completeSoftReset b).expo = b.expo ∧ (completeSoftReset b).film = b.film ∧ (completeSoftReset b).pages =
    b.pages ∧ (completeSoftReset b).charges = b.charges ∧ (completeSoftReset b).nv = b.nv ∧ (completeSoftReset
    b).link = b.link ∧ (completeSoftReset b).mem = b.mem ∧ (completeSoftReset b).nvCycle = b.nvCycle ∧
    (completeSoftReset b).resetPin = b.resetPin ∧ (completeSoftReset b).supplyLow = b.supplyLow ∧
    (completeSoftReset b).freeCount = b.freeCount := by
  unfold completeSoftReset
  (try dsimp only)
  (repeat' split) <;> simp [*]

@[simp] theorem standAfterCycle_frame (b : Block) :
    (standAfterCycle b).expo = b.expo ∧ (standAfterCycle b).film = b.film ∧ (standAfterCycle b).pages = b.pages
    ∧ (standAfterCycle b).charges = b.charges ∧ (standAfterCycle b).nv = b.nv ∧ (standAfterCycle b).link =
    b.link ∧ (standAfterCycle b).mem = b.mem ∧ (standAfterCycle b).nvCycle = b.nvCycle ∧ (standAfterCycle
    b).resetPin = b.resetPin ∧ (standAfterCycle b).supplyLow = b.supplyLow ∧ (standAfterCycle b).freeCount =
    b.freeCount := by
  unfold standAfterCycle
  (try dsimp only)
  (repeat' split) <;> simp [*]

@[simp] theorem withOutcome_frame (f : OutcomeRecord → OutcomeRecord) (b : Block) :
    (withOutcome f b).orders = b.orders ∧ (withOutcome f b).expo = b.expo ∧ (withOutcome f b).film = b.film ∧
    (withOutcome f b).pages = b.pages ∧ (withOutcome f b).charges = b.charges ∧ (withOutcome f b).nv = b.nv ∧
    (withOutcome f b).link = b.link ∧ (withOutcome f b).path = b.path ∧ (withOutcome f b).stand = b.stand ∧
    (withOutcome f b).mem = b.mem ∧ (withOutcome f b).nvCycle = b.nvCycle ∧ (withOutcome f b).resetPin =
    b.resetPin ∧ (withOutcome f b).supplyLow = b.supplyLow ∧ (withOutcome f b).freeCount = b.freeCount := by
  unfold withOutcome
  (try dsimp only)
  (repeat' split) <;> simp [*]

@[simp] theorem endCycle_frame (oc : OutcomeCode) (b : Block) :
    (endCycle oc b).expo = b.expo ∧ (endCycle oc b).film = b.film ∧ (endCycle oc b).pages = b.pages ∧ (endCycle
    oc b).charges = b.charges ∧ (endCycle oc b).nv = b.nv ∧ (endCycle oc b).link = b.link ∧ (endCycle oc b).mem
    = b.mem ∧ (endCycle oc b).nvCycle = b.nvCycle ∧ (endCycle oc b).resetPin = b.resetPin ∧ (endCycle oc
    b).supplyLow = b.supplyLow ∧ (endCycle oc b).freeCount = b.freeCount := by
  unfold endCycle
  (try dsimp only)
  (repeat' split) <;> simp [*]

@[simp] theorem takeResult_frame (n : Fin 24) (code : OrderCode) (r : Vector Word 9) (b : Block) :
    (takeResult n code r b).gate = b.gate ∧ (takeResult n code r b).expo = b.expo ∧ (takeResult n code r b).film
    = b.film ∧ (takeResult n code r b).pages = b.pages ∧ (takeResult n code r b).charges = b.charges ∧
    (takeResult n code r b).nv = b.nv ∧ (takeResult n code r b).link = b.link ∧ (takeResult n code r b).stand =
    b.stand ∧ (takeResult n code r b).mem = b.mem ∧ (takeResult n code r b).nvCycle = b.nvCycle ∧ (takeResult n
    code r b).resetPin = b.resetPin ∧ (takeResult n code r b).supplyLow = b.supplyLow ∧ (takeResult n code r
    b).freeCount = b.freeCount := by
  unfold takeResult
  (try dsimp only)
  (repeat' split) <;> simp [*]

@[simp] theorem closeOrder_frame (a : ActiveOrder) (e : Entry) (reason : Reason) (b : Block) :
    (closeOrder a e reason b).gate = b.gate ∧ (closeOrder a e reason b).expo = b.expo ∧ (closeOrder a e reason
    b).film = b.film ∧ (closeOrder a e reason b).pages = b.pages ∧ (closeOrder a e reason b).charges = b.charges
    ∧ (closeOrder a e reason b).nv = b.nv ∧ (closeOrder a e reason b).link = b.link ∧ (closeOrder a e reason
    b).stand = b.stand ∧ (closeOrder a e reason b).mem = b.mem ∧ (closeOrder a e reason b).nvCycle = b.nvCycle ∧
    (closeOrder a e reason b).resetPin = b.resetPin ∧ (closeOrder a e reason b).supplyLow = b.supplyLow ∧
    (closeOrder a e reason b).freeCount = b.freeCount := by
  unfold closeOrder
  (try dsimp only)
  (repeat' split) <;> simp [*]

@[simp] theorem setList_frame (l : List Entry) (b : Block) :
    (setList l b).orders = b.orders ∧ (setList l b).expo = b.expo ∧ (setList l b).film = b.film ∧ (setList l
    b).pages = b.pages ∧ (setList l b).charges = b.charges ∧ (setList l b).nv = b.nv ∧ (setList l b).link =
    b.link ∧ (setList l b).path = b.path ∧ (setList l b).stand = b.stand ∧ (setList l b).mem = b.mem ∧ (setList
    l b).nvCycle = b.nvCycle ∧ (setList l b).resetPin = b.resetPin ∧ (setList l b).supplyLow = b.supplyLow ∧
    (setList l b).freeCount = b.freeCount := by
  unfold setList
  (try dsimp only)
  (repeat' split) <;> simp [*]

@[simp] theorem withEntry_frame (i : Nat) (f : Entry → Entry) (b : Block) :
    (withEntry i f b).orders = b.orders ∧ (withEntry i f b).expo = b.expo ∧ (withEntry i f b).film = b.film ∧
    (withEntry i f b).pages = b.pages ∧ (withEntry i f b).charges = b.charges ∧ (withEntry i f b).nv = b.nv ∧
    (withEntry i f b).link = b.link ∧ (withEntry i f b).path = b.path ∧ (withEntry i f b).stand = b.stand ∧
    (withEntry i f b).mem = b.mem ∧ (withEntry i f b).nvCycle = b.nvCycle ∧ (withEntry i f b).resetPin =
    b.resetPin ∧ (withEntry i f b).supplyLow = b.supplyLow ∧ (withEntry i f b).freeCount = b.freeCount := by
  unfold withEntry
  (try dsimp only)
  (repeat' split) <;> simp [*]

@[simp] theorem endCancelled_frame (reason : Reason) (oc : OutcomeCode) (b : Block) :
    (endCancelled reason oc b).expo = b.expo ∧ (endCancelled reason oc b).film = b.film ∧ (endCancelled reason
    oc b).pages = b.pages ∧ (endCancelled reason oc b).charges = b.charges ∧ (endCancelled reason oc b).nv =
    b.nv ∧ (endCancelled reason oc b).link = b.link ∧ (endCancelled reason oc b).mem = b.mem ∧ (endCancelled
    reason oc b).nvCycle = b.nvCycle ∧ (endCancelled reason oc b).resetPin = b.resetPin ∧ (endCancelled reason
    oc b).supplyLow = b.supplyLow ∧ (endCancelled reason oc b).freeCount = b.freeCount := by
  unfold endCancelled
  (try dsimp only)
  (repeat' split) <;> simp [*]

@[simp] theorem endPending_frame (b : Block) :
    (endPending b).expo = b.expo ∧ (endPending b).film = b.film ∧ (endPending b).pages = b.pages ∧ (endPending
    b).charges = b.charges ∧ (endPending b).nv = b.nv ∧ (endPending b).link = b.link ∧ (endPending b).mem =
    b.mem ∧ (endPending b).nvCycle = b.nvCycle ∧ (endPending b).resetPin = b.resetPin ∧ (endPending b).supplyLow
    = b.supplyLow ∧ (endPending b).freeCount = b.freeCount := by
  unfold endPending
  (try dsimp only)
  (repeat' split) <;> simp [*]

@[simp] theorem withActive_frame (f : ActiveOrder → ActiveOrder) (b : Block) :
    (withActive f b).orders = b.orders ∧ (withActive f b).expo = b.expo ∧ (withActive f b).film = b.film ∧
    (withActive f b).pages = b.pages ∧ (withActive f b).charges = b.charges ∧ (withActive f b).nv = b.nv ∧
    (withActive f b).link = b.link ∧ (withActive f b).path = b.path ∧ (withActive f b).stand = b.stand ∧
    (withActive f b).mem = b.mem ∧ (withActive f b).nvCycle = b.nvCycle ∧ (withActive f b).resetPin = b.resetPin
    ∧ (withActive f b).supplyLow = b.supplyLow ∧ (withActive f b).freeCount = b.freeCount := by
  unfold withActive
  (try dsimp only)
  (repeat' split) <;> simp [*]

@[simp] theorem beginStep_frame (b : Block) :
    (beginStep b).orders = b.orders ∧ (beginStep b).film = b.film ∧ (beginStep b).pages = b.pages ∧ (beginStep
    b).charges = b.charges ∧ (beginStep b).nv = b.nv ∧ (beginStep b).link = b.link ∧ (beginStep b).stand =
    b.stand ∧ (beginStep b).mem = b.mem ∧ (beginStep b).nvCycle = b.nvCycle ∧ (beginStep b).resetPin =
    b.resetPin ∧ (beginStep b).supplyLow = b.supplyLow ∧ (beginStep b).freeCount = b.freeCount := by
  unfold beginStep
  (try dsimp only)
  (repeat' split) <;> simp [*]

@[simp] theorem tryExpose_frame (b : Block) :
    (tryExpose b).orders = b.orders ∧ (tryExpose b).pages = b.pages ∧ (tryExpose b).nv = b.nv ∧ (tryExpose
    b).link = b.link ∧ (tryExpose b).path = b.path ∧ (tryExpose b).stand = b.stand ∧ (tryExpose b).mem = b.mem ∧
    (tryExpose b).nvCycle = b.nvCycle ∧ (tryExpose b).resetPin = b.resetPin ∧ (tryExpose b).supplyLow =
    b.supplyLow ∧ (tryExpose b).freeCount = b.freeCount := by
  unfold tryExpose
  (try dsimp only)
  (repeat' split) <;> simp [*]

@[simp] theorem resultLoaded_frame (r : Vector Word 9) (b : Block) :
    (resultLoaded r b).film = b.film ∧ (resultLoaded r b).pages = b.pages ∧ (resultLoaded r b).charges =
    b.charges ∧ (resultLoaded r b).nv = b.nv ∧ (resultLoaded r b).link = b.link ∧ (resultLoaded r b).mem = b.mem
    ∧ (resultLoaded r b).nvCycle = b.nvCycle ∧ (resultLoaded r b).resetPin = b.resetPin ∧ (resultLoaded r
    b).supplyLow = b.supplyLow ∧ (resultLoaded r b).freeCount = b.freeCount := by
  unfold resultLoaded
  (try dsimp only)
  (repeat' split) <;> simp [*]

@[simp] theorem loadResult_frame (n : Fin 24) (b : Block) :
    (loadResult n b).film = b.film ∧ (loadResult n b).pages = b.pages ∧ (loadResult n b).charges = b.charges ∧
    (loadResult n b).nv = b.nv ∧ (loadResult n b).link = b.link ∧ (loadResult n b).mem = b.mem ∧ (loadResult n
    b).nvCycle = b.nvCycle ∧ (loadResult n b).resetPin = b.resetPin ∧ (loadResult n b).supplyLow = b.supplyLow ∧
    (loadResult n b).freeCount = b.freeCount := by
  unfold loadResult
  (try dsimp only)
  (repeat' split) <;> simp [*]

@[simp] theorem moveOutEntry_frame (i : Nat) (e : Entry) (b : Block) :
    (moveOutEntry i e b).film = b.film ∧ (moveOutEntry i e b).pages = b.pages ∧ (moveOutEntry i e b).charges =
    b.charges ∧ (moveOutEntry i e b).nv = b.nv ∧ (moveOutEntry i e b).link = b.link ∧ (moveOutEntry i e b).mem =
    b.mem ∧ (moveOutEntry i e b).nvCycle = b.nvCycle ∧ (moveOutEntry i e b).resetPin = b.resetPin ∧
    (moveOutEntry i e b).supplyLow = b.supplyLow ∧ (moveOutEntry i e b).freeCount = b.freeCount := by
  unfold moveOutEntry
  (try dsimp only)
  (repeat' split) <;> simp [*]

@[simp] theorem moveOut_frame (b : Block) :
    (moveOut b).film = b.film ∧ (moveOut b).pages = b.pages ∧ (moveOut b).charges = b.charges ∧ (moveOut b).nv =
    b.nv ∧ (moveOut b).link = b.link ∧ (moveOut b).mem = b.mem ∧ (moveOut b).nvCycle = b.nvCycle ∧ (moveOut
    b).resetPin = b.resetPin ∧ (moveOut b).supplyLow = b.supplyLow ∧ (moveOut b).freeCount = b.freeCount := by
  unfold moveOut
  (try dsimp only)
  (repeat' split) <;> simp [*]

@[simp] theorem endServed_frame (a : ActiveOrder) (e : Entry) (b : Block) :
    (endServed a e b).film = b.film ∧ (endServed a e b).pages = b.pages ∧ (endServed a e b).charges = b.charges
    ∧ (endServed a e b).nv = b.nv ∧ (endServed a e b).link = b.link ∧ (endServed a e b).mem = b.mem ∧ (endServed
    a e b).nvCycle = b.nvCycle ∧ (endServed a e b).resetPin = b.resetPin ∧ (endServed a e b).supplyLow =
    b.supplyLow ∧ (endServed a e b).freeCount = b.freeCount := by
  unfold endServed
  (try dsimp only)
  (repeat' split) <;> simp [*]

@[simp] theorem stepEnded_frame (b : Block) :
    (stepEnded b).film = b.film ∧ (stepEnded b).pages = b.pages ∧ (stepEnded b).charges = b.charges ∧ (stepEnded
    b).nv = b.nv ∧ (stepEnded b).link = b.link ∧ (stepEnded b).mem = b.mem ∧ (stepEnded b).nvCycle = b.nvCycle ∧
    (stepEnded b).resetPin = b.resetPin ∧ (stepEnded b).supplyLow = b.supplyLow ∧ (stepEnded b).freeCount =
    b.freeCount := by
  unfold stepEnded
  (try dsimp only)
  (repeat' split) <;> simp [*]

@[simp] theorem skipStep_frame (a : ActiveOrder) (e : Entry) (b : Block) :
    (skipStep a e b).film = b.film ∧ (skipStep a e b).pages = b.pages ∧ (skipStep a e b).charges = b.charges ∧
    (skipStep a e b).nv = b.nv ∧ (skipStep a e b).link = b.link ∧ (skipStep a e b).mem = b.mem ∧ (skipStep a e
    b).nvCycle = b.nvCycle ∧ (skipStep a e b).resetPin = b.resetPin ∧ (skipStep a e b).supplyLow = b.supplyLow ∧
    (skipStep a e b).freeCount = b.freeCount := by
  unfold skipStep
  (try dsimp only)
  (repeat' split) <;> simp [*]

@[simp] theorem tableReadDone_frame (v : Word) (b : Block) :
    (tableReadDone v b).pages = b.pages ∧ (tableReadDone v b).nv = b.nv ∧ (tableReadDone v b).link = b.link ∧
    (tableReadDone v b).mem = b.mem ∧ (tableReadDone v b).nvCycle = b.nvCycle ∧ (tableReadDone v b).resetPin =
    b.resetPin ∧ (tableReadDone v b).supplyLow = b.supplyLow ∧ (tableReadDone v b).freeCount = b.freeCount := by
  unfold tableReadDone
  (try dsimp only)
  (repeat' split) <;> simp [*]

@[simp] theorem skipEntry_frame (i : Nat) (reason : Reason) (b : Block) :
    (skipEntry i reason b).orders = b.orders ∧ (skipEntry i reason b).expo = b.expo ∧ (skipEntry i reason
    b).film = b.film ∧ (skipEntry i reason b).pages = b.pages ∧ (skipEntry i reason b).charges = b.charges ∧
    (skipEntry i reason b).nv = b.nv ∧ (skipEntry i reason b).link = b.link ∧ (skipEntry i reason b).path =
    b.path ∧ (skipEntry i reason b).stand = b.stand ∧ (skipEntry i reason b).mem = b.mem ∧ (skipEntry i reason
    b).nvCycle = b.nvCycle ∧ (skipEntry i reason b).resetPin = b.resetPin ∧ (skipEntry i reason b).supplyLow =
    b.supplyLow ∧ (skipEntry i reason b).freeCount = b.freeCount := by
  unfold skipEntry
  (try dsimp only)
  (repeat' split) <;> simp [*]

@[simp] theorem dropEntry_frame (i : Nat) (b : Block) :
    (dropEntry i b).orders = b.orders ∧ (dropEntry i b).expo = b.expo ∧ (dropEntry i b).film = b.film ∧
    (dropEntry i b).pages = b.pages ∧ (dropEntry i b).charges = b.charges ∧ (dropEntry i b).nv = b.nv ∧
    (dropEntry i b).link = b.link ∧ (dropEntry i b).path = b.path ∧ (dropEntry i b).stand = b.stand ∧ (dropEntry
    i b).mem = b.mem ∧ (dropEntry i b).nvCycle = b.nvCycle ∧ (dropEntry i b).resetPin = b.resetPin ∧ (dropEntry
    i b).supplyLow = b.supplyLow ∧ (dropEntry i b).freeCount = b.freeCount := by
  unfold dropEntry
  (try dsimp only)
  (repeat' split) <;> simp [*]

@[simp] theorem rollShort_frame (i : Nat) (n : Fin 24) (b : Block) :
    (rollShort i n b).expo = b.expo ∧ (rollShort i n b).film = b.film ∧ (rollShort i n b).pages = b.pages ∧
    (rollShort i n b).charges = b.charges ∧ (rollShort i n b).nv = b.nv ∧ (rollShort i n b).link = b.link ∧
    (rollShort i n b).stand = b.stand ∧ (rollShort i n b).mem = b.mem ∧ (rollShort i n b).nvCycle = b.nvCycle ∧
    (rollShort i n b).resetPin = b.resetPin ∧ (rollShort i n b).supplyLow = b.supplyLow ∧ (rollShort i n
    b).freeCount = b.freeCount := by
  unfold rollShort
  (try dsimp only)
  (repeat' split) <;> simp [*]

@[simp] theorem awaitAccount_frame (i : Nat) (a : Fin 128) (b : Block) :
    (awaitAccount i a b).orders = b.orders ∧ (awaitAccount i a b).expo = b.expo ∧ (awaitAccount i a b).film =
    b.film ∧ (awaitAccount i a b).pages = b.pages ∧ (awaitAccount i a b).charges = b.charges ∧ (awaitAccount i a
    b).link = b.link ∧ (awaitAccount i a b).path = b.path ∧ (awaitAccount i a b).stand = b.stand ∧ (awaitAccount
    i a b).mem = b.mem ∧ (awaitAccount i a b).nvCycle = b.nvCycle ∧ (awaitAccount i a b).resetPin = b.resetPin ∧
    (awaitAccount i a b).supplyLow = b.supplyLow ∧ (awaitAccount i a b).freeCount = b.freeCount := by
  unfold awaitAccount
  (try dsimp only)
  (repeat' split) <;> simp [*]

@[simp] theorem visit_frame (i : Nat) (e : Entry) (b : Block) :
    ((visit i e b).1).expo = b.expo ∧ ((visit i e b).1).film = b.film ∧ ((visit i e b).1).pages = b.pages ∧
    ((visit i e b).1).charges = b.charges ∧ ((visit i e b).1).link = b.link ∧ ((visit i e b).1).stand = b.stand
    ∧ ((visit i e b).1).mem = b.mem ∧ ((visit i e b).1).nvCycle = b.nvCycle ∧ ((visit i e b).1).resetPin =
    b.resetPin ∧ ((visit i e b).1).supplyLow = b.supplyLow ∧ ((visit i e b).1).freeCount = b.freeCount := by
  unfold visit
  (try dsimp only)
  (repeat' split) <;> simp [*]

@[simp] theorem visitAll_frame (l : List Nat) (b : Block) :
    (visitAll l b).film = b.film ∧ (visitAll l b).pages = b.pages ∧ (visitAll l b).charges = b.charges ∧
    (visitAll l b).link = b.link ∧ (visitAll l b).mem = b.mem ∧ (visitAll l b).nvCycle = b.nvCycle ∧ (visitAll l
    b).resetPin = b.resetPin ∧ (visitAll l b).supplyLow = b.supplyLow ∧ (visitAll l b).freeCount = b.freeCount := by
  induction l generalizing b with
  | nil => simp [visitAll]
  | cons i l ih =>
    unfold visitAll
    (try dsimp only)
    (repeat' split) <;> simp [*]

@[simp] theorem visitFrom_frame (i : Nat) (b : Block) :
    (visitFrom i b).film = b.film ∧ (visitFrom i b).pages = b.pages ∧ (visitFrom i b).charges = b.charges ∧
    (visitFrom i b).link = b.link ∧ (visitFrom i b).mem = b.mem ∧ (visitFrom i b).nvCycle = b.nvCycle ∧
    (visitFrom i b).resetPin = b.resetPin ∧ (visitFrom i b).supplyLow = b.supplyLow ∧ (visitFrom i b).freeCount
    = b.freeCount := by
  unfold visitFrom
  (try dsimp only)
  (repeat' split) <;> simp [*]

@[simp] theorem judgeEntry_frame (i : Nat) (e : Entry) (r : List Word) (b : Block) :
    (judgeEntry i e r b).expo = b.expo ∧ (judgeEntry i e r b).film = b.film ∧ (judgeEntry i e r b).pages =
    b.pages ∧ (judgeEntry i e r b).charges = b.charges ∧ (judgeEntry i e r b).nv = b.nv ∧ (judgeEntry i e r
    b).link = b.link ∧ (judgeEntry i e r b).stand = b.stand ∧ (judgeEntry i e r b).mem = b.mem ∧ (judgeEntry i e
    r b).nvCycle = b.nvCycle ∧ (judgeEntry i e r b).resetPin = b.resetPin ∧ (judgeEntry i e r b).supplyLow =
    b.supplyLow ∧ (judgeEntry i e r b).freeCount = b.freeCount := by
  unfold judgeEntry
  (try dsimp only)
  (repeat' split) <;> simp [*]

@[simp] theorem planningReadDone_frame (got : List Word) (b : Block) :
    (planningReadDone got b).film = b.film ∧ (planningReadDone got b).pages = b.pages ∧ (planningReadDone got
    b).link = b.link ∧ (planningReadDone got b).mem = b.mem ∧ (planningReadDone got b).nvCycle = b.nvCycle ∧
    (planningReadDone got b).resetPin = b.resetPin ∧ (planningReadDone got b).supplyLow = b.supplyLow := by
  unfold planningReadDone
  (try dsimp only)
  (repeat' split) <;> simp [*]

@[simp] theorem passOver_frame (b : Block) (n : Fin 24) :
    (passOver b n).expo = b.expo ∧ (passOver b n).film = b.film ∧ (passOver b n).pages = b.pages ∧ (passOver b
    n).charges = b.charges ∧ (passOver b n).nv = b.nv ∧ (passOver b n).link = b.link ∧ (passOver b n).stand =
    b.stand ∧ (passOver b n).mem = b.mem ∧ (passOver b n).nvCycle = b.nvCycle ∧ (passOver b n).resetPin =
    b.resetPin ∧ (passOver b n).supplyLow = b.supplyLow ∧ (passOver b n).freeCount = b.freeCount := by
  unfold passOver
  (try dsimp only)
  (repeat' split) <;> simp [*]

@[simp] theorem scan_frame (b : Block) :
    (scan b).film = b.film ∧ (scan b).pages = b.pages ∧ (scan b).charges = b.charges ∧ (scan b).link = b.link ∧
    (scan b).mem = b.mem ∧ (scan b).nvCycle = b.nvCycle ∧ (scan b).resetPin = b.resetPin ∧ (scan b).supplyLow =
    b.supplyLow ∧ (scan b).freeCount = b.freeCount := by
  refine ⟨?_, ?_, ?_, ?_, ?_, ?_, ?_, ?_, ?_⟩
  · unfold scan; dsimp only; split <;> simp [foldl_keeps (fun b : Block => b.film) passOver (by simp)]
  · unfold scan; dsimp only; split <;> simp [foldl_keeps (fun b : Block => b.pages) passOver (by simp)]
  · unfold scan; dsimp only; split <;> simp [foldl_keeps (fun b : Block => b.charges) passOver (by simp)]
  · unfold scan; dsimp only; split <;> simp [foldl_keeps (fun b : Block => b.link) passOver (by simp)]
  · unfold scan; dsimp only; split <;> simp [foldl_keeps (fun b : Block => b.mem) passOver (by simp)]
  · unfold scan; dsimp only; split <;> simp [foldl_keeps (fun b : Block => b.nvCycle) passOver (by simp)]
  · unfold scan; dsimp only; split <;> simp [foldl_keeps (fun b : Block => b.resetPin) passOver (by simp)]
  · unfold scan; dsimp only; split <;> simp [foldl_keeps (fun b : Block => b.supplyLow) passOver (by simp)]
  · unfold scan; dsimp only; split <;> simp [foldl_keeps (fun b : Block => b.freeCount) passOver (by simp)]

@[simp] theorem endConversion_frame (b : Block) :
    (endConversion b).orders = b.orders ∧ (endConversion b).gate = b.gate ∧ (endConversion b).film = b.film ∧
    (endConversion b).pages = b.pages ∧ (endConversion b).charges = b.charges ∧ (endConversion b).nv = b.nv ∧
    (endConversion b).link = b.link ∧ (endConversion b).path = b.path ∧ (endConversion b).stand = b.stand ∧
    (endConversion b).mem = b.mem ∧ (endConversion b).nvCycle = b.nvCycle ∧ (endConversion b).resetPin =
    b.resetPin ∧ (endConversion b).supplyLow = b.supplyLow ∧ (endConversion b).freeCount = b.freeCount := by
  unfold endConversion
  (try dsimp only)
  (repeat' split) <;> simp [*]

@[simp] theorem judgeReading_frame (r : BitVec 10) (b : Block) :
    (judgeReading r b).film = b.film ∧ (judgeReading r b).pages = b.pages ∧ (judgeReading r b).charges =
    b.charges ∧ (judgeReading r b).link = b.link ∧ (judgeReading r b).mem = b.mem ∧ (judgeReading r b).nvCycle =
    b.nvCycle ∧ (judgeReading r b).resetPin = b.resetPin ∧ (judgeReading r b).supplyLow = b.supplyLow ∧
    (judgeReading r b).freeCount = b.freeCount := by
  unfold judgeReading
  (try dsimp only)
  (repeat' split) <;> simp [*]

@[simp] theorem conversionDone_frame (r : BitVec 10) (b : Block) :
    (conversionDone r b).film = b.film ∧ (conversionDone r b).pages = b.pages ∧ (conversionDone r b).charges =
    b.charges ∧ (conversionDone r b).link = b.link ∧ (conversionDone r b).mem = b.mem ∧ (conversionDone r
    b).nvCycle = b.nvCycle ∧ (conversionDone r b).resetPin = b.resetPin ∧ (conversionDone r b).supplyLow =
    b.supplyLow ∧ (conversionDone r b).freeCount = b.freeCount := by
  unfold conversionDone
  (try dsimp only)
  (repeat' split) <;> simp [*]

@[simp] theorem startCycle_frame (b : Block) :
    (startCycle b).orders = b.orders ∧ (startCycle b).film = b.film ∧ (startCycle b).pages = b.pages ∧
    (startCycle b).charges = b.charges ∧ (startCycle b).nv = b.nv ∧ (startCycle b).link = b.link ∧ (startCycle
    b).path = b.path ∧ (startCycle b).stand = b.stand ∧ (startCycle b).mem = b.mem ∧ (startCycle b).nvCycle =
    b.nvCycle ∧ (startCycle b).resetPin = b.resetPin ∧ (startCycle b).supplyLow = b.supplyLow ∧ (startCycle
    b).freeCount = b.freeCount := by
  unfold startCycle
  (try dsimp only)
  (repeat' split) <;> simp [*]

@[simp] theorem beginConversion_frame (b : Block) :
    (beginConversion b).orders = b.orders ∧ (beginConversion b).film = b.film ∧ (beginConversion b).pages =
    b.pages ∧ (beginConversion b).charges = b.charges ∧ (beginConversion b).nv = b.nv ∧ (beginConversion b).link
    = b.link ∧ (beginConversion b).path = b.path ∧ (beginConversion b).stand = b.stand ∧ (beginConversion b).mem
    = b.mem ∧ (beginConversion b).nvCycle = b.nvCycle ∧ (beginConversion b).resetPin = b.resetPin ∧
    (beginConversion b).supplyLow = b.supplyLow ∧ (beginConversion b).freeCount = b.freeCount := by
  unfold beginConversion
  (try dsimp only)
  (repeat' split) <;> simp [*]

@[simp] theorem arriveOp_frame (b : Block) :
    (arriveOp b).film = b.film ∧ (arriveOp b).pages = b.pages ∧ (arriveOp b).charges = b.charges ∧ (arriveOp
    b).nv = b.nv ∧ (arriveOp b).link = b.link ∧ (arriveOp b).mem = b.mem ∧ (arriveOp b).nvCycle = b.nvCycle ∧
    (arriveOp b).resetPin = b.resetPin ∧ (arriveOp b).supplyLow = b.supplyLow ∧ (arriveOp b).freeCount =
    b.freeCount := by
  unfold arriveOp
  (try dsimp only)
  (repeat' split) <;> simp [*]

@[simp] theorem endIfIdle_frame (b : Block) :
    (endIfIdle b).expo = b.expo ∧ (endIfIdle b).film = b.film ∧ (endIfIdle b).pages = b.pages ∧ (endIfIdle
    b).charges = b.charges ∧ (endIfIdle b).nv = b.nv ∧ (endIfIdle b).link = b.link ∧ (endIfIdle b).mem = b.mem ∧
    (endIfIdle b).nvCycle = b.nvCycle ∧ (endIfIdle b).resetPin = b.resetPin ∧ (endIfIdle b).supplyLow =
    b.supplyLow ∧ (endIfIdle b).freeCount = b.freeCount := by
  unfold endIfIdle
  (try dsimp only)
  (repeat' split) <;> simp [*]

@[simp] theorem withdrawOp_frame (b : Block) :
    (withdrawOp b).expo = b.expo ∧ (withdrawOp b).film = b.film ∧ (withdrawOp b).pages = b.pages ∧ (withdrawOp
    b).charges = b.charges ∧ (withdrawOp b).nv = b.nv ∧ (withdrawOp b).link = b.link ∧ (withdrawOp b).mem =
    b.mem ∧ (withdrawOp b).nvCycle = b.nvCycle ∧ (withdrawOp b).resetPin = b.resetPin ∧ (withdrawOp b).supplyLow
    = b.supplyLow ∧ (withdrawOp b).freeCount = b.freeCount := by
  unfold withdrawOp
  (try dsimp only)
  (repeat' split) <;> simp [*]

@[simp] theorem gateReset_frame (b : Block) :
    (gateReset b).expo = b.expo ∧ (gateReset b).film = b.film ∧ (gateReset b).pages = b.pages ∧ (gateReset
    b).charges = b.charges ∧ (gateReset b).nv = b.nv ∧ (gateReset b).link = b.link ∧ (gateReset b).mem = b.mem ∧
    (gateReset b).nvCycle = b.nvCycle ∧ (gateReset b).resetPin = b.resetPin ∧ (gateReset b).supplyLow =
    b.supplyLow ∧ (gateReset b).freeCount = b.freeCount := by
  unfold gateReset
  (try dsimp only)
  (repeat' split) <;> simp [*]

@[simp] theorem deactivateEntry_frame (i : Nat) (e : Entry) (b : Block) :
    (deactivateEntry i e b).orders = b.orders ∧ (deactivateEntry i e b).expo = b.expo ∧ (deactivateEntry i e
    b).film = b.film ∧ (deactivateEntry i e b).pages = b.pages ∧ (deactivateEntry i e b).charges = b.charges ∧
    (deactivateEntry i e b).nv = b.nv ∧ (deactivateEntry i e b).link = b.link ∧ (deactivateEntry i e b).path =
    b.path ∧ (deactivateEntry i e b).stand = b.stand ∧ (deactivateEntry i e b).mem = b.mem ∧ (deactivateEntry i
    e b).nvCycle = b.nvCycle ∧ (deactivateEntry i e b).resetPin = b.resetPin ∧ (deactivateEntry i e b).supplyLow
    = b.supplyLow ∧ (deactivateEntry i e b).freeCount = b.freeCount := by
  unfold deactivateEntry
  (try dsimp only)
  (repeat' split) <;> simp [*]

@[simp] theorem deactivate_frame (n : Fin 24) (b : Block) :
    (deactivate n b).orders = b.orders ∧ (deactivate n b).expo = b.expo ∧ (deactivate n b).film = b.film ∧
    (deactivate n b).pages = b.pages ∧ (deactivate n b).charges = b.charges ∧ (deactivate n b).nv = b.nv ∧
    (deactivate n b).link = b.link ∧ (deactivate n b).path = b.path ∧ (deactivate n b).stand = b.stand ∧
    (deactivate n b).mem = b.mem ∧ (deactivate n b).nvCycle = b.nvCycle ∧ (deactivate n b).resetPin = b.resetPin
    ∧ (deactivate n b).supplyLow = b.supplyLow ∧ (deactivate n b).freeCount = b.freeCount := by
  unfold deactivate
  (try dsimp only)
  (repeat' split) <;> simp [*]

@[simp] theorem orderControlWrite_frame (n : Fin 24) (v : Word) (b : Block) :
    (orderControlWrite n v b).expo = b.expo ∧ (orderControlWrite n v b).film = b.film ∧ (orderControlWrite n v
    b).pages = b.pages ∧ (orderControlWrite n v b).charges = b.charges ∧ (orderControlWrite n v b).nv = b.nv ∧
    (orderControlWrite n v b).link = b.link ∧ (orderControlWrite n v b).mem = b.mem ∧ (orderControlWrite n v
    b).nvCycle = b.nvCycle ∧ (orderControlWrite n v b).resetPin = b.resetPin ∧ (orderControlWrite n v
    b).supplyLow = b.supplyLow ∧ (orderControlWrite n v b).freeCount = b.freeCount := by
  unfold orderControlWrite
  (try dsimp only)
  (repeat' split) <;> simp [*]

@[simp] theorem orderWrite_frame (n : Fin 24) (k : Fin 16) (v : Word) (b : Block) :
    (orderWrite n k v b).expo = b.expo ∧ (orderWrite n k v b).film = b.film ∧ (orderWrite n k v b).pages =
    b.pages ∧ (orderWrite n k v b).charges = b.charges ∧ (orderWrite n k v b).nv = b.nv ∧ (orderWrite n k v
    b).link = b.link ∧ (orderWrite n k v b).mem = b.mem ∧ (orderWrite n k v b).nvCycle = b.nvCycle ∧ (orderWrite
    n k v b).resetPin = b.resetPin ∧ (orderWrite n k v b).supplyLow = b.supplyLow ∧ (orderWrite n k v
    b).freeCount = b.freeCount := by
  unfold orderWrite
  (try dsimp only)
  (repeat' split) <;> simp [*]

@[simp] theorem takeUp_frame (b : Block) (d : Deferred) :
    (takeUp b d).film = b.film ∧ (takeUp b d).pages = b.pages ∧ (takeUp b d).charges = b.charges ∧ (takeUp b
    d).nv = b.nv ∧ (takeUp b d).link = b.link ∧ (takeUp b d).mem = b.mem ∧ (takeUp b d).nvCycle = b.nvCycle ∧
    (takeUp b d).resetPin = b.resetPin ∧ (takeUp b d).supplyLow = b.supplyLow ∧ (takeUp b d).freeCount =
    b.freeCount := by
  unfold takeUp
  (try dsimp only)
  (repeat' split) <;> simp [*]

@[simp] theorem baseReadDone_frame (r : BaseRead) (got : List Word) (b : Block) :
    (baseReadDone r got b).film = b.film ∧ (baseReadDone r got b).pages = b.pages ∧ (baseReadDone r got
    b).charges = b.charges ∧ (baseReadDone r got b).nv = b.nv ∧ (baseReadDone r got b).link = b.link ∧
    (baseReadDone r got b).mem = b.mem ∧ (baseReadDone r got b).nvCycle = b.nvCycle ∧ (baseReadDone r got
    b).resetPin = b.resetPin ∧ (baseReadDone r got b).supplyLow = b.supplyLow ∧ (baseReadDone r got b).freeCount
    = b.freeCount := by
  refine ⟨?_, ?_, ?_, ?_, ?_, ?_, ?_, ?_, ?_, ?_⟩
  · simp [baseReadDone, foldl_keeps (fun b : Block => b.film) takeUp (by simp)]
  · simp [baseReadDone, foldl_keeps (fun b : Block => b.pages) takeUp (by simp)]
  · simp [baseReadDone, foldl_keeps (fun b : Block => b.charges) takeUp (by simp)]
  · simp [baseReadDone, foldl_keeps (fun b : Block => b.nv) takeUp (by simp)]
  · simp [baseReadDone, foldl_keeps (fun b : Block => b.link) takeUp (by simp)]
  · simp [baseReadDone, foldl_keeps (fun b : Block => b.mem) takeUp (by simp)]
  · simp [baseReadDone, foldl_keeps (fun b : Block => b.nvCycle) takeUp (by simp)]
  · simp [baseReadDone, foldl_keeps (fun b : Block => b.resetPin) takeUp (by simp)]
  · simp [baseReadDone, foldl_keeps (fun b : Block => b.supplyLow) takeUp (by simp)]
  · simp [baseReadDone, foldl_keeps (fun b : Block => b.freeCount) takeUp (by simp)]

@[simp] theorem resultReadsDone_frame (known : ResultWords) (got : List Word) (b : Block) :
    (resultReadsDone known got b).film = b.film ∧ (resultReadsDone known got b).pages = b.pages ∧
    (resultReadsDone known got b).charges = b.charges ∧ (resultReadsDone known got b).nv = b.nv ∧
    (resultReadsDone known got b).link = b.link ∧ (resultReadsDone known got b).mem = b.mem ∧ (resultReadsDone
    known got b).nvCycle = b.nvCycle ∧ (resultReadsDone known got b).resetPin = b.resetPin ∧ (resultReadsDone
    known got b).supplyLow = b.supplyLow ∧ (resultReadsDone known got b).freeCount = b.freeCount := by
  unfold resultReadsDone
  (try dsimp only)
  (repeat' split) <;> simp [*]

@[simp] theorem recordFrame_frame (a : ActiveOrder) (e : Entry) (price : Nat) (p : Fin 4) (f : Fin 72) (b : Block) :
    (recordFrame a e price p f b).orders = b.orders ∧ (recordFrame a e price p f b).gate = b.gate ∧ (recordFrame
    a e price p f b).expo = b.expo ∧ (recordFrame a e price p f b).film = b.film ∧ (recordFrame a e price p f
    b).charges = b.charges ∧ (recordFrame a e price p f b).nv = b.nv ∧ (recordFrame a e price p f b).link =
    b.link ∧ (recordFrame a e price p f b).stand = b.stand ∧ (recordFrame a e price p f b).mem = b.mem ∧
    (recordFrame a e price p f b).nvCycle = b.nvCycle ∧ (recordFrame a e price p f b).resetPin = b.resetPin ∧
    (recordFrame a e price p f b).supplyLow = b.supplyLow ∧ (recordFrame a e price p f b).freeCount =
    b.freeCount := by
  unfold recordFrame
  (try dsimp only)
  (repeat' split) <;> simp [*]

@[simp] theorem chargeFrame_frame (a : ActiveOrder) (price : Nat) (p : Fin 4) (f : Fin 72) (b : Block) :
    (chargeFrame a price p f b).orders = b.orders ∧ (chargeFrame a price p f b).gate = b.gate ∧ (chargeFrame a
    price p f b).expo = b.expo ∧ (chargeFrame a price p f b).film = b.film ∧ (chargeFrame a price p f b).pages =
    b.pages ∧ (chargeFrame a price p f b).nv = b.nv ∧ (chargeFrame a price p f b).link = b.link ∧ (chargeFrame a
    price p f b).path = b.path ∧ (chargeFrame a price p f b).stand = b.stand ∧ (chargeFrame a price p f b).mem =
    b.mem ∧ (chargeFrame a price p f b).nvCycle = b.nvCycle ∧ (chargeFrame a price p f b).resetPin = b.resetPin
    ∧ (chargeFrame a price p f b).supplyLow = b.supplyLow ∧ (chargeFrame a price p f b).freeCount = b.freeCount := by
  unfold chargeFrame
  (try dsimp only)
  (repeat' split) <;> simp [*]

@[simp] theorem countFrame_frame (a : ActiveOrder) (price : Nat) (p : Fin 4) (f : Fin 72) (b : Block) :
    (countFrame a price p f b).orders = b.orders ∧ (countFrame a price p f b).expo = b.expo ∧ (countFrame a
    price p f b).film = b.film ∧ (countFrame a price p f b).pages = b.pages ∧ (countFrame a price p f b).charges
    = b.charges ∧ (countFrame a price p f b).nv = b.nv ∧ (countFrame a price p f b).link = b.link ∧ (countFrame
    a price p f b).path = b.path ∧ (countFrame a price p f b).stand = b.stand ∧ (countFrame a price p f b).mem =
    b.mem ∧ (countFrame a price p f b).nvCycle = b.nvCycle ∧ (countFrame a price p f b).resetPin = b.resetPin ∧
    (countFrame a price p f b).supplyLow = b.supplyLow ∧ (countFrame a price p f b).freeCount = b.freeCount := by
  unfold countFrame
  (try dsimp only)
  (repeat' split) <;> simp [*]

@[simp] theorem endFrame_frame (f : Fin 72) (b : Block) :
    (endFrame f b).pages = b.pages ∧ (endFrame f b).charges = b.charges ∧ (endFrame f b).nv = b.nv ∧ (endFrame f
    b).link = b.link ∧ (endFrame f b).mem = b.mem ∧ (endFrame f b).nvCycle = b.nvCycle ∧ (endFrame f b).resetPin
    = b.resetPin ∧ (endFrame f b).supplyLow = b.supplyLow ∧ (endFrame f b).freeCount = b.freeCount := by
  unfold endFrame
  (try dsimp only)
  (repeat' split) <;> simp [*]

@[simp] theorem exposureDone_frame (b : Block) :
    (exposureDone b).nv = b.nv ∧ (exposureDone b).link = b.link ∧ (exposureDone b).mem = b.mem ∧ (exposureDone
    b).nvCycle = b.nvCycle ∧ (exposureDone b).resetPin = b.resetPin ∧ (exposureDone b).supplyLow = b.supplyLow ∧
    (exposureDone b).freeCount = b.freeCount := by
  unfold exposureDone
  (try dsimp only)
  (repeat' split) <;> simp [*]

@[simp] theorem leaderDone_frame (b : Block) :
    (leaderDone b).orders = b.orders ∧ (leaderDone b).gate = b.gate ∧ (leaderDone b).expo = b.expo ∧ (leaderDone
    b).pages = b.pages ∧ (leaderDone b).charges = b.charges ∧ (leaderDone b).nv = b.nv ∧ (leaderDone b).link =
    b.link ∧ (leaderDone b).path = b.path ∧ (leaderDone b).mem = b.mem ∧ (leaderDone b).nvCycle = b.nvCycle ∧
    (leaderDone b).resetPin = b.resetPin ∧ (leaderDone b).supplyLow = b.supplyLow ∧ (leaderDone b).freeCount =
    b.freeCount := by
  unfold leaderDone
  (try dsimp only)
  (repeat' split) <;> simp [*]

@[simp] theorem advanceDone_frame (b : Block) :
    (advanceDone b).pages = b.pages ∧ (advanceDone b).charges = b.charges ∧ (advanceDone b).nv = b.nv ∧
    (advanceDone b).link = b.link ∧ (advanceDone b).mem = b.mem ∧ (advanceDone b).nvCycle = b.nvCycle ∧
    (advanceDone b).resetPin = b.resetPin ∧ (advanceDone b).supplyLow = b.supplyLow ∧ (advanceDone b).freeCount
    = b.freeCount := by
  unfold advanceDone
  (try dsimp only)
  (repeat' split) <;> simp [*]

@[simp] theorem pulse_frame (b : Block) :
    (pulse b).pages = b.pages ∧ (pulse b).charges = b.charges ∧ (pulse b).nv = b.nv ∧ (pulse b).link = b.link ∧
    (pulse b).mem = b.mem ∧ (pulse b).nvCycle = b.nvCycle ∧ (pulse b).resetPin = b.resetPin ∧ (pulse
    b).supplyLow = b.supplyLow ∧ (pulse b).freeCount = b.freeCount := by
  unfold pulse
  (try dsimp only)
  (repeat' split) <;> simp [*]

@[simp] theorem jamCycle_frame (b : Block) :
    (jamCycle b).expo = b.expo ∧ (jamCycle b).film = b.film ∧ (jamCycle b).pages = b.pages ∧ (jamCycle
    b).charges = b.charges ∧ (jamCycle b).nv = b.nv ∧ (jamCycle b).link = b.link ∧ (jamCycle b).mem = b.mem ∧
    (jamCycle b).nvCycle = b.nvCycle ∧ (jamCycle b).resetPin = b.resetPin ∧ (jamCycle b).supplyLow = b.supplyLow
    ∧ (jamCycle b).freeCount = b.freeCount := by
  unfold jamCycle
  (try dsimp only)
  (repeat' split) <;> simp [*]

@[simp] theorem advanceTimeoutOp_frame (b : Block) :
    (advanceTimeoutOp b).expo = b.expo ∧ (advanceTimeoutOp b).pages = b.pages ∧ (advanceTimeoutOp b).charges =
    b.charges ∧ (advanceTimeoutOp b).nv = b.nv ∧ (advanceTimeoutOp b).link = b.link ∧ (advanceTimeoutOp b).mem =
    b.mem ∧ (advanceTimeoutOp b).nvCycle = b.nvCycle ∧ (advanceTimeoutOp b).resetPin = b.resetPin ∧
    (advanceTimeoutOp b).supplyLow = b.supplyLow ∧ (advanceTimeoutOp b).freeCount = b.freeCount := by
  unfold advanceTimeoutOp
  (try dsimp only)
  (repeat' split) <;> simp [*]


end Sys2Proof.Machine
end

