-- ==== Sys2Proof/Laws/FramesTop.lean ====
section
/-! SUPPORT. What each operation leaves as it is: the Charge Unit, Stand Control, the Path Unit, completions. -/

set_option linter.unusedTactic false
set_option linter.unnecessarySeqFocus false
set_option linter.unreachableTactic false

namespace Sys2Proof.Machine

@[simp] theorem roomFound_frame (b : Block) :
    (roomFound b).orders = b.orders ∧ (roomFound b).nv = b.nv ∧ (roomFound b).link = b.link ∧ (roomFound b).mem
    = b.mem ∧ (roomFound b).nvCycle = b.nvCycle ∧ (roomFound b).resetPin = b.resetPin ∧ (roomFound b).supplyLow
    = b.supplyLow := by
  unfold roomFound
  (try dsimp only)
  (repeat' split) <;> simp [*]

@[simp] theorem placeFreed_frame (spoils : Bool) (b : Block) :
    (placeFreed spoils b).orders = b.orders ∧ (placeFreed spoils b).nv = b.nv ∧ (placeFreed spoils b).link = b.link
    ∧ (placeFreed spoils b).mem = b.mem ∧ (placeFreed spoils b).nvCycle = b.nvCycle ∧ (placeFreed spoils
    b).resetPin = b.resetPin ∧ (placeFreed spoils b).supplyLow = b.supplyLow := by
  unfold placeFreed
  (try dsimp only)
  (repeat' split) <;> simp [*]

@[simp] theorem spoilCommand_frame (p : Fin 4) (f : Fin 72) (b : Block) :
    (spoilCommand p f b).orders = b.orders ∧ (spoilCommand p f b).nv = b.nv ∧ (spoilCommand p f b).mem = b.mem
    ∧ (spoilCommand p f b).nvCycle = b.nvCycle ∧ (spoilCommand p f b).resetPin = b.resetPin ∧ (spoilCommand p f
    b).supplyLow = b.supplyLow := by
  unfold spoilCommand
  (try dsimp only)
  (repeat' split) <;> simp [*]

@[simp] theorem dropHead_frame (b : Block) :
    (dropHead b).orders = b.orders ∧ (dropHead b).gate = b.gate ∧ (dropHead b).expo = b.expo ∧ (dropHead b).film
    = b.film ∧ (dropHead b).pages = b.pages ∧ (dropHead b).nv = b.nv ∧ (dropHead b).link = b.link ∧ (dropHead
    b).path = b.path ∧ (dropHead b).stand = b.stand ∧ (dropHead b).mem = b.mem ∧ (dropHead b).nvCycle =
    b.nvCycle ∧ (dropHead b).resetPin = b.resetPin ∧ (dropHead b).supplyLow = b.supplyLow ∧ (dropHead
    b).freeCount = b.freeCount := by
  unfold dropHead
  (try dsimp only)
  (repeat' split) <;> simp [*]

@[simp] theorem faultPosting_frame (p : Posting) (b : Block) :
    (faultPosting p b).orders = b.orders ∧ (faultPosting p b).gate = b.gate ∧ (faultPosting p b).expo = b.expo ∧
    (faultPosting p b).film = b.film ∧ (faultPosting p b).pages = b.pages ∧ (faultPosting p b).nv = b.nv ∧
    (faultPosting p b).link = b.link ∧ (faultPosting p b).path = b.path ∧ (faultPosting p b).mem = b.mem ∧
    (faultPosting p b).nvCycle = b.nvCycle ∧ (faultPosting p b).resetPin = b.resetPin ∧ (faultPosting p
    b).supplyLow = b.supplyLow ∧ (faultPosting p b).freeCount = b.freeCount := by
  unfold faultPosting
  (try dsimp only)
  (repeat' split) <;> simp [*]

@[simp] theorem postingReadDone_frame (spoils : Bool) (got : List Word) (b : Block) :
    (postingReadDone spoils got b).orders = b.orders ∧ (postingReadDone spoils got b).mem = b.mem ∧
    (postingReadDone spoils got b).nvCycle = b.nvCycle ∧ (postingReadDone spoils got b).resetPin = b.resetPin ∧
    (postingReadDone spoils got b).supplyLow = b.supplyLow := by
  unfold postingReadDone
  (try dsimp only)
  (repeat' split) <;> simp [*]

@[simp] theorem postingDone_frame (spoils : Bool) (b : Block) :
    (postingDone spoils b).orders = b.orders ∧ (postingDone spoils b).mem = b.mem ∧ (postingDone spoils b).nvCycle
    = b.nvCycle ∧ (postingDone spoils b).resetPin = b.resetPin ∧ (postingDone spoils b).supplyLow = b.supplyLow := by
  unfold postingDone
  (try dsimp only)
  (repeat' split) <;> simp [*]

@[simp] theorem unpostedLowRead_frame (b : Block) :
    (unpostedLowRead b).orders = b.orders ∧ (unpostedLowRead b).gate = b.gate ∧ (unpostedLowRead b).expo =
    b.expo ∧ (unpostedLowRead b).film = b.film ∧ (unpostedLowRead b).pages = b.pages ∧ (unpostedLowRead b).nv =
    b.nv ∧ (unpostedLowRead b).link = b.link ∧ (unpostedLowRead b).stand = b.stand ∧ (unpostedLowRead b).mem =
    b.mem ∧ (unpostedLowRead b).nvCycle = b.nvCycle ∧ (unpostedLowRead b).resetPin = b.resetPin ∧
    (unpostedLowRead b).supplyLow = b.supplyLow ∧ (unpostedLowRead b).freeCount = b.freeCount := by
  unfold unpostedLowRead
  (try dsimp only)
  (repeat' split) <;> simp [*]

@[simp] theorem unpostedLowWrite_frame (v : Word) (b : Block) :
    (unpostedLowWrite v b).orders = b.orders ∧ (unpostedLowWrite v b).gate = b.gate ∧ (unpostedLowWrite v
    b).expo = b.expo ∧ (unpostedLowWrite v b).film = b.film ∧ (unpostedLowWrite v b).pages = b.pages ∧
    (unpostedLowWrite v b).nv = b.nv ∧ (unpostedLowWrite v b).link = b.link ∧ (unpostedLowWrite v b).path =
    b.path ∧ (unpostedLowWrite v b).stand = b.stand ∧ (unpostedLowWrite v b).mem = b.mem ∧ (unpostedLowWrite v
    b).nvCycle = b.nvCycle ∧ (unpostedLowWrite v b).resetPin = b.resetPin ∧ (unpostedLowWrite v b).supplyLow =
    b.supplyLow ∧ (unpostedLowWrite v b).freeCount = b.freeCount := by
  unfold unpostedLowWrite
  (try dsimp only)
  (repeat' split) <;> simp [*]

@[simp] theorem unpostedHighWrite_frame (v : Word) (b : Block) :
    (unpostedHighWrite v b).orders = b.orders ∧ (unpostedHighWrite v b).gate = b.gate ∧ (unpostedHighWrite v
    b).expo = b.expo ∧ (unpostedHighWrite v b).film = b.film ∧ (unpostedHighWrite v b).pages = b.pages ∧
    (unpostedHighWrite v b).nv = b.nv ∧ (unpostedHighWrite v b).link = b.link ∧ (unpostedHighWrite v b).path =
    b.path ∧ (unpostedHighWrite v b).stand = b.stand ∧ (unpostedHighWrite v b).mem = b.mem ∧ (unpostedHighWrite
    v b).nvCycle = b.nvCycle ∧ (unpostedHighWrite v b).resetPin = b.resetPin ∧ (unpostedHighWrite v b).supplyLow
    = b.supplyLow ∧ (unpostedHighWrite v b).freeCount = b.freeCount := by
  unfold unpostedHighWrite
  (try dsimp only)
  (repeat' split) <;> simp [*]

@[simp] theorem lastFaultedWrite_frame (b : Block) :
    (lastFaultedWrite b).orders = b.orders ∧ (lastFaultedWrite b).gate = b.gate ∧ (lastFaultedWrite b).expo =
    b.expo ∧ (lastFaultedWrite b).film = b.film ∧ (lastFaultedWrite b).pages = b.pages ∧ (lastFaultedWrite b).nv
    = b.nv ∧ (lastFaultedWrite b).link = b.link ∧ (lastFaultedWrite b).path = b.path ∧ (lastFaultedWrite
    b).stand = b.stand ∧ (lastFaultedWrite b).mem = b.mem ∧ (lastFaultedWrite b).nvCycle = b.nvCycle ∧
    (lastFaultedWrite b).resetPin = b.resetPin ∧ (lastFaultedWrite b).supplyLow = b.supplyLow ∧
    (lastFaultedWrite b).freeCount = b.freeCount := by
  unfold lastFaultedWrite
  (try dsimp only)
  (repeat' split) <;> simp [*]

@[simp] theorem latchSettings_frame (b : Block) :
    (latchSettings b).orders = b.orders ∧ (latchSettings b).gate = b.gate ∧ (latchSettings b).expo = b.expo ∧
    (latchSettings b).film = b.film ∧ (latchSettings b).charges = b.charges ∧ (latchSettings b).nv = b.nv ∧
    (latchSettings b).mem = b.mem ∧ (latchSettings b).nvCycle = b.nvCycle ∧ (latchSettings b).resetPin =
    b.resetPin ∧ (latchSettings b).supplyLow = b.supplyLow ∧ (latchSettings b).freeCount = b.freeCount := by
  unfold latchSettings
  (try dsimp only)
  (repeat' split) <;> simp [*]

@[simp] theorem validate_frame (b : Block) :
    (validate b).orders = b.orders ∧ (validate b).gate = b.gate ∧ (validate b).expo = b.expo ∧ (validate b).film
    = b.film ∧ (validate b).charges = b.charges ∧ (validate b).nv = b.nv ∧ (validate b).mem = b.mem ∧ (validate
    b).nvCycle = b.nvCycle ∧ (validate b).resetPin = b.resetPin ∧ (validate b).supplyLow = b.supplyLow ∧
    (validate b).freeCount = b.freeCount := by
  unfold validate
  (try dsimp only)
  (repeat' split) <;> simp [*]

@[simp] theorem runOp_frame (b : Block) :
    (runOp b).orders = b.orders ∧ (runOp b).gate = b.gate ∧ (runOp b).expo = b.expo ∧ (runOp b).film = b.film ∧
    (runOp b).charges = b.charges ∧ (runOp b).nv = b.nv ∧ (runOp b).mem = b.mem ∧ (runOp b).nvCycle = b.nvCycle
    ∧ (runOp b).resetPin = b.resetPin ∧ (runOp b).supplyLow = b.supplyLow ∧ (runOp b).freeCount = b.freeCount := by
  unfold runOp
  (try dsimp only)
  (repeat' split) <;> simp [*]

@[simp] theorem holdOp_frame (b : Block) :
    (holdOp b).orders = b.orders ∧ (holdOp b).gate = b.gate ∧ (holdOp b).expo = b.expo ∧ (holdOp b).film =
    b.film ∧ (holdOp b).pages = b.pages ∧ (holdOp b).charges = b.charges ∧ (holdOp b).nv = b.nv ∧ (holdOp
    b).link = b.link ∧ (holdOp b).path = b.path ∧ (holdOp b).mem = b.mem ∧ (holdOp b).nvCycle = b.nvCycle ∧
    (holdOp b).resetPin = b.resetPin ∧ (holdOp b).supplyLow = b.supplyLow ∧ (holdOp b).freeCount = b.freeCount := by
  unfold holdOp
  (try dsimp only)
  (repeat' split) <;> simp [*]

@[simp] theorem clearRefused_frame (b : Block) :
    (clearRefused b).orders = b.orders ∧ (clearRefused b).gate = b.gate ∧ (clearRefused b).expo = b.expo ∧
    (clearRefused b).film = b.film ∧ (clearRefused b).pages = b.pages ∧ (clearRefused b).charges = b.charges ∧
    (clearRefused b).nv = b.nv ∧ (clearRefused b).link = b.link ∧ (clearRefused b).stand = b.stand ∧
    (clearRefused b).mem = b.mem ∧ (clearRefused b).nvCycle = b.nvCycle ∧ (clearRefused b).resetPin = b.resetPin
    ∧ (clearRefused b).supplyLow = b.supplyLow ∧ (clearRefused b).freeCount = b.freeCount := by
  unfold clearRefused
  (try dsimp only)
  (repeat' split) <;> simp [*]

@[simp] theorem softResetOp_frame (b : Block) :
    (softResetOp b).expo = b.expo ∧ (softResetOp b).film = b.film ∧ (softResetOp b).charges = b.charges ∧
    (softResetOp b).nv = b.nv ∧ (softResetOp b).mem = b.mem ∧ (softResetOp b).nvCycle = b.nvCycle ∧ (softResetOp
    b).resetPin = b.resetPin ∧ (softResetOp b).supplyLow = b.supplyLow ∧ (softResetOp b).freeCount = b.freeCount := by
  unfold softResetOp
  (try dsimp only)
  (repeat' split) <;> simp [*]

@[simp] theorem countTick_frame (b : Block) :
    (countTick b).orders = b.orders ∧ (countTick b).gate = b.gate ∧ (countTick b).expo = b.expo ∧ (countTick
    b).pages = b.pages ∧ (countTick b).charges = b.charges ∧ (countTick b).nv = b.nv ∧ (countTick b).path =
    b.path ∧ (countTick b).mem = b.mem ∧ (countTick b).nvCycle = b.nvCycle ∧ (countTick b).resetPin = b.resetPin
    ∧ (countTick b).supplyLow = b.supplyLow ∧ (countTick b).freeCount = b.freeCount := by
  unfold countTick
  (try dsimp only)
  (repeat' split) <;> simp [*]

@[simp] theorem runOut_frame (b : Block) :
    (runOut b).expo = b.expo ∧ (runOut b).charges = b.charges ∧ (runOut b).nv = b.nv ∧ (runOut b).mem = b.mem ∧
    (runOut b).nvCycle = b.nvCycle ∧ (runOut b).resetPin = b.resetPin ∧ (runOut b).supplyLow = b.supplyLow ∧
    (runOut b).freeCount = b.freeCount := by
  unfold runOut
  (try dsimp only)
  (repeat' split) <;> simp [*]

@[simp] theorem clockTick_frame (b : Block) :
    (clockTick b).resetPin = b.resetPin ∧ (clockTick b).supplyLow = b.supplyLow ∧ (clockTick b).freeCount =
    b.freeCount := by
  unfold clockTick
  (try dsimp only)
  (repeat' split) <;> simp [*]

@[simp] theorem clockRead_frame (b : Block) :
    (clockRead b).gate = b.gate ∧ (clockRead b).expo = b.expo ∧ (clockRead b).film = b.film ∧ (clockRead
    b).pages = b.pages ∧ (clockRead b).charges = b.charges ∧ (clockRead b).nv = b.nv ∧ (clockRead b).link =
    b.link ∧ (clockRead b).stand = b.stand ∧ (clockRead b).mem = b.mem ∧ (clockRead b).nvCycle = b.nvCycle ∧
    (clockRead b).resetPin = b.resetPin ∧ (clockRead b).supplyLow = b.supplyLow ∧ (clockRead b).freeCount =
    b.freeCount := by
  unfold clockRead
  (try dsimp only)
  (repeat' split) <;> simp [*]

@[simp] theorem flagsWrite_frame (v : Word) (b : Block) :
    (flagsWrite v b).orders = b.orders ∧ (flagsWrite v b).gate = b.gate ∧ (flagsWrite v b).expo = b.expo ∧
    (flagsWrite v b).film = b.film ∧ (flagsWrite v b).pages = b.pages ∧ (flagsWrite v b).charges = b.charges ∧
    (flagsWrite v b).nv = b.nv ∧ (flagsWrite v b).link = b.link ∧ (flagsWrite v b).path = b.path ∧ (flagsWrite v
    b).mem = b.mem ∧ (flagsWrite v b).nvCycle = b.nvCycle ∧ (flagsWrite v b).resetPin = b.resetPin ∧ (flagsWrite
    v b).supplyLow = b.supplyLow ∧ (flagsWrite v b).freeCount = b.freeCount := by
  unfold flagsWrite
  (try dsimp only)
  (repeat' split) <;> simp [*]

@[simp] theorem levelsWrite_frame (v : Word) (b : Block) :
    (levelsWrite v b).orders = b.orders ∧ (levelsWrite v b).gate = b.gate ∧ (levelsWrite v b).expo = b.expo ∧
    (levelsWrite v b).film = b.film ∧ (levelsWrite v b).pages = b.pages ∧ (levelsWrite v b).charges = b.charges
    ∧ (levelsWrite v b).nv = b.nv ∧ (levelsWrite v b).link = b.link ∧ (levelsWrite v b).path = b.path ∧
    (levelsWrite v b).mem = b.mem ∧ (levelsWrite v b).nvCycle = b.nvCycle ∧ (levelsWrite v b).resetPin =
    b.resetPin ∧ (levelsWrite v b).supplyLow = b.supplyLow ∧ (levelsWrite v b).freeCount = b.freeCount := by
  unfold levelsWrite
  (try dsimp only)
  (repeat' split) <;> simp [*]

@[simp] theorem refusedLowRead_frame (b : Block) :
    (refusedLowRead b).orders = b.orders ∧ (refusedLowRead b).gate = b.gate ∧ (refusedLowRead b).expo = b.expo ∧
    (refusedLowRead b).film = b.film ∧ (refusedLowRead b).pages = b.pages ∧ (refusedLowRead b).charges =
    b.charges ∧ (refusedLowRead b).nv = b.nv ∧ (refusedLowRead b).link = b.link ∧ (refusedLowRead b).stand =
    b.stand ∧ (refusedLowRead b).mem = b.mem ∧ (refusedLowRead b).nvCycle = b.nvCycle ∧ (refusedLowRead
    b).resetPin = b.resetPin ∧ (refusedLowRead b).supplyLow = b.supplyLow ∧ (refusedLowRead b).freeCount =
    b.freeCount := by
  unfold refusedLowRead
  (try dsimp only)
  (repeat' split) <;> simp [*]

@[simp] theorem storeAt_frame (t : Target) (v : Word) (b : Block) :
    (storeAt t v b).orders = b.orders ∧ (storeAt t v b).gate = b.gate ∧ (storeAt t v b).expo = b.expo ∧ (storeAt
    t v b).film = b.film ∧ (storeAt t v b).pages = b.pages ∧ (storeAt t v b).charges = b.charges ∧ (storeAt t v
    b).nv = b.nv ∧ (storeAt t v b).link = b.link ∧ (storeAt t v b).stand = b.stand ∧ (storeAt t v b).mem = b.mem
    ∧ (storeAt t v b).nvCycle = b.nvCycle ∧ (storeAt t v b).resetPin = b.resetPin ∧ (storeAt t v b).supplyLow =
    b.supplyLow ∧ (storeAt t v b).freeCount = b.freeCount := by
  unfold storeAt
  (try dsimp only)
  (repeat' split) <;> simp [*]

@[simp] theorem settingsWrite_frame (w : Fin 32) (v : Word) (b : Block) :
    (settingsWrite w v b).orders = b.orders ∧ (settingsWrite w v b).gate = b.gate ∧ (settingsWrite w v b).expo =
    b.expo ∧ (settingsWrite w v b).film = b.film ∧ (settingsWrite w v b).pages = b.pages ∧ (settingsWrite w v
    b).charges = b.charges ∧ (settingsWrite w v b).nv = b.nv ∧ (settingsWrite w v b).link = b.link ∧
    (settingsWrite w v b).mem = b.mem ∧ (settingsWrite w v b).nvCycle = b.nvCycle ∧ (settingsWrite w v
    b).resetPin = b.resetPin ∧ (settingsWrite w v b).supplyLow = b.supplyLow ∧ (settingsWrite w v b).freeCount =
    b.freeCount := by
  unfold settingsWrite
  (try dsimp only)
  (repeat' split) <;> simp [*]

@[simp] theorem standRead_frame (a : Nat) (w : Fin 64) (b : Block) :
    (standRead a w b).gate = b.gate ∧ (standRead a w b).expo = b.expo ∧ (standRead a w b).film = b.film ∧
    (standRead a w b).pages = b.pages ∧ (standRead a w b).nv = b.nv ∧ (standRead a w b).link = b.link ∧
    (standRead a w b).stand = b.stand ∧ (standRead a w b).mem = b.mem ∧ (standRead a w b).nvCycle = b.nvCycle ∧
    (standRead a w b).resetPin = b.resetPin ∧ (standRead a w b).supplyLow = b.supplyLow ∧ (standRead a w
    b).freeCount = b.freeCount := by
  unfold standRead
  (try dsimp only)
  (repeat' split) <;> simp [*]

@[simp] theorem orderRead_frame (a : Nat) (n : Fin 24) (k : Fin 16) (b : Block) :
    (orderRead a n k b).gate = b.gate ∧ (orderRead a n k b).expo = b.expo ∧ (orderRead a n k b).film = b.film ∧
    (orderRead a n k b).pages = b.pages ∧ (orderRead a n k b).charges = b.charges ∧ (orderRead a n k b).nv =
    b.nv ∧ (orderRead a n k b).link = b.link ∧ (orderRead a n k b).stand = b.stand ∧ (orderRead a n k b).mem =
    b.mem ∧ (orderRead a n k b).nvCycle = b.nvCycle ∧ (orderRead a n k b).resetPin = b.resetPin ∧ (orderRead a n
    k b).supplyLow = b.supplyLow ∧ (orderRead a n k b).freeCount = b.freeCount := by
  unfold orderRead
  (try dsimp only)
  (repeat' split) <;> simp [*]

@[simp] theorem templateRead_frame (a : Nat) (t : Fin 16) (k : Fin 32) (b : Block) :
    (templateRead a t k b).orders = b.orders ∧ (templateRead a t k b).gate = b.gate ∧ (templateRead a t k
    b).expo = b.expo ∧ (templateRead a t k b).film = b.film ∧ (templateRead a t k b).pages = b.pages ∧
    (templateRead a t k b).charges = b.charges ∧ (templateRead a t k b).nv = b.nv ∧ (templateRead a t k b).link
    = b.link ∧ (templateRead a t k b).stand = b.stand ∧ (templateRead a t k b).mem = b.mem ∧ (templateRead a t k
    b).nvCycle = b.nvCycle ∧ (templateRead a t k b).resetPin = b.resetPin ∧ (templateRead a t k b).supplyLow =
    b.supplyLow ∧ (templateRead a t k b).freeCount = b.freeCount := by
  unfold templateRead
  (try dsimp only)
  (repeat' split) <;> simp [*]

@[simp] theorem headerRead_frame (a : Nat) (p : Fin 4) (k : Fin 8) (b : Block) :
    (headerRead a p k b).orders = b.orders ∧ (headerRead a p k b).gate = b.gate ∧ (headerRead a p k b).expo =
    b.expo ∧ (headerRead a p k b).film = b.film ∧ (headerRead a p k b).pages = b.pages ∧ (headerRead a p k
    b).charges = b.charges ∧ (headerRead a p k b).nv = b.nv ∧ (headerRead a p k b).link = b.link ∧ (headerRead a
    p k b).stand = b.stand ∧ (headerRead a p k b).mem = b.mem ∧ (headerRead a p k b).nvCycle = b.nvCycle ∧
    (headerRead a p k b).resetPin = b.resetPin ∧ (headerRead a p k b).supplyLow = b.supplyLow ∧ (headerRead a p
    k b).freeCount = b.freeCount := by
  unfold headerRead
  (try dsimp only)
  (repeat' split) <;> simp [*]

@[simp] theorem takeRead_frame (a : Nat) (b : Block) :
    (takeRead a b).gate = b.gate ∧ (takeRead a b).expo = b.expo ∧ (takeRead a b).film = b.film ∧ (takeRead a
    b).pages = b.pages ∧ (takeRead a b).nv = b.nv ∧ (takeRead a b).link = b.link ∧ (takeRead a b).stand =
    b.stand ∧ (takeRead a b).mem = b.mem ∧ (takeRead a b).nvCycle = b.nvCycle ∧ (takeRead a b).resetPin =
    b.resetPin ∧ (takeRead a b).supplyLow = b.supplyLow ∧ (takeRead a b).freeCount = b.freeCount := by
  unfold takeRead
  (try dsimp only)
  (repeat' split) <;> simp [*]

@[simp] theorem standWordWrite_frame (v : Word) (b : Block) :
    (standWordWrite v b).expo = b.expo ∧ (standWordWrite v b).film = b.film ∧ (standWordWrite v b).charges =
    b.charges ∧ (standWordWrite v b).nv = b.nv ∧ (standWordWrite v b).mem = b.mem ∧ (standWordWrite v b).nvCycle
    = b.nvCycle ∧ (standWordWrite v b).resetPin = b.resetPin ∧ (standWordWrite v b).supplyLow = b.supplyLow ∧
    (standWordWrite v b).freeCount = b.freeCount := by
  unfold standWordWrite
  (try dsimp only)
  (repeat' split) <;> simp [*]

@[simp] theorem gateWordWrite_frame (v : Word) (b : Block) :
    (gateWordWrite v b).film = b.film ∧ (gateWordWrite v b).pages = b.pages ∧ (gateWordWrite v b).charges =
    b.charges ∧ (gateWordWrite v b).nv = b.nv ∧ (gateWordWrite v b).link = b.link ∧ (gateWordWrite v b).mem =
    b.mem ∧ (gateWordWrite v b).nvCycle = b.nvCycle ∧ (gateWordWrite v b).resetPin = b.resetPin ∧ (gateWordWrite
    v b).supplyLow = b.supplyLow ∧ (gateWordWrite v b).freeCount = b.freeCount := by
  unfold gateWordWrite
  (try dsimp only)
  (repeat' split) <;> simp [*]

@[simp] theorem filmWordWrite_frame (v : Word) (b : Block) :
    (filmWordWrite v b).orders = b.orders ∧ (filmWordWrite v b).gate = b.gate ∧ (filmWordWrite v b).expo =
    b.expo ∧ (filmWordWrite v b).charges = b.charges ∧ (filmWordWrite v b).nv = b.nv ∧ (filmWordWrite v b).link
    = b.link ∧ (filmWordWrite v b).mem = b.mem ∧ (filmWordWrite v b).nvCycle = b.nvCycle ∧ (filmWordWrite v
    b).resetPin = b.resetPin ∧ (filmWordWrite v b).supplyLow = b.supplyLow ∧ (filmWordWrite v b).freeCount =
    b.freeCount := by
  unfold filmWordWrite
  (try dsimp only)
  (repeat' split) <;> simp [*]

@[simp] theorem accountGateWrite_frame (v : Word) (b : Block) :
    (accountGateWrite v b).orders = b.orders ∧ (accountGateWrite v b).gate = b.gate ∧ (accountGateWrite v
    b).expo = b.expo ∧ (accountGateWrite v b).film = b.film ∧ (accountGateWrite v b).pages = b.pages ∧
    (accountGateWrite v b).charges = b.charges ∧ (accountGateWrite v b).link = b.link ∧ (accountGateWrite v
    b).mem = b.mem ∧ (accountGateWrite v b).nvCycle = b.nvCycle ∧ (accountGateWrite v b).resetPin = b.resetPin ∧
    (accountGateWrite v b).supplyLow = b.supplyLow ∧ (accountGateWrite v b).freeCount = b.freeCount := by
  unfold accountGateWrite
  (try dsimp only)
  (repeat' split) <;> simp [*]

@[simp] theorem standWrite_frame (a : Nat) (w : Fin 64) (v : Word) (b : Block) :
    (standWrite a w v b).mem = b.mem ∧ (standWrite a w v b).nvCycle = b.nvCycle ∧ (standWrite a w v b).resetPin
    = b.resetPin ∧ (standWrite a w v b).supplyLow = b.supplyLow ∧ (standWrite a w v b).freeCount = b.freeCount := by
  unfold standWrite
  (try dsimp only)
  (repeat' split) <;> simp [*]

@[simp] theorem headerWrite_frame (p : Fin 4) (k : Fin 8) (v : Word) (b : Block) :
    (headerWrite p k v b).orders = b.orders ∧ (headerWrite p k v b).gate = b.gate ∧ (headerWrite p k v b).expo =
    b.expo ∧ (headerWrite p k v b).film = b.film ∧ (headerWrite p k v b).nv = b.nv ∧ (headerWrite p k v b).mem =
    b.mem ∧ (headerWrite p k v b).nvCycle = b.nvCycle ∧ (headerWrite p k v b).resetPin = b.resetPin ∧
    (headerWrite p k v b).supplyLow = b.supplyLow ∧ (headerWrite p k v b).freeCount = b.freeCount := by
  unfold headerWrite
  (try dsimp only)
  (repeat' split) <;> simp [*]

@[simp] theorem frameWrite_frame (p : Fin 4) (f : Fin 72) (k : Fin 6) (v : Word) (b : Block) :
    (frameWrite p f k v b).orders = b.orders ∧ (frameWrite p f k v b).nv = b.nv ∧ (frameWrite p f k v b).mem = b.mem ∧
    (frameWrite p f k v b).nvCycle = b.nvCycle ∧ (frameWrite p f k v b).resetPin = b.resetPin ∧ (frameWrite p f k v
    b).supplyLow = b.supplyLow := by
  unfold frameWrite
  (try dsimp only)
  (repeat' split) <;> simp [*]

@[simp] theorem takeWrite_frame (a : Nat) (v : Word) (b : Block) :
    (takeWrite a v b).mem = b.mem ∧ (takeWrite a v b).nvCycle = b.nvCycle ∧ (takeWrite a v b).resetPin =
    b.resetPin ∧ (takeWrite a v b).supplyLow = b.supplyLow := by
  unfold takeWrite
  (try dsimp only)
  (repeat' split) <;> simp [*]

@[simp] theorem takeAccess_frame (a : Access) (b : Block) :
    (takeAccess a b).mem = b.mem ∧ (takeAccess a b).nvCycle = b.nvCycle ∧ (takeAccess a b).resetPin = b.resetPin
    ∧ (takeAccess a b).supplyLow = b.supplyLow := by
  unfold takeAccess
  (try dsimp only)
  (repeat' split) <;> simp [*]

@[simp] theorem takeHeld_frame (b : Block) :
    (takeHeld b).mem = b.mem ∧ (takeHeld b).nvCycle = b.nvCycle ∧ (takeHeld b).resetPin = b.resetPin ∧ (takeHeld
    b).supplyLow = b.supplyLow := by
  unfold takeHeld
  (try dsimp only)
  (repeat' split) <;> simp [*]

@[simp] theorem controllerDone_frame (got : List Word) (b : Block) :
    (controllerDone got b).orders = b.orders ∧ (controllerDone got b).gate = b.gate ∧ (controllerDone got
    b).expo = b.expo ∧ (controllerDone got b).film = b.film ∧ (controllerDone got b).pages = b.pages ∧
    (controllerDone got b).charges = b.charges ∧ (controllerDone got b).nv = b.nv ∧ (controllerDone got b).link
    = b.link ∧ (controllerDone got b).stand = b.stand ∧ (controllerDone got b).mem = b.mem ∧ (controllerDone got
    b).nvCycle = b.nvCycle ∧ (controllerDone got b).resetPin = b.resetPin ∧ (controllerDone got b).supplyLow =
    b.supplyLow ∧ (controllerDone got b).freeCount = b.freeCount := by
  unfold controllerDone
  (try dsimp only)
  (repeat' split) <;> simp [*]

@[simp] theorem initialisationDone_frame (b : Block) :
    (initialisationDone b).mem = b.mem ∧ (initialisationDone b).nvCycle = b.nvCycle ∧ (initialisationDone
    b).resetPin = b.resetPin ∧ (initialisationDone b).supplyLow = b.supplyLow := by
  unfold initialisationDone
  (try dsimp only)
  (repeat' split) <;> simp [*]

@[simp] theorem ownerDone_frame (spoils : Bool) (owner : Owner) (got : List Word) (b : Block) :
    (ownerDone spoils owner got b).mem = b.mem ∧ (ownerDone spoils owner got b).nvCycle = b.nvCycle ∧ (ownerDone spoils owner got
    b).resetPin = b.resetPin ∧ (ownerDone spoils owner got b).supplyLow = b.supplyLow := by
  unfold ownerDone
  (try dsimp only)
  (repeat' split) <;> simp [*]

@[simp] theorem freePort_frame (b : Block) :
    (freePort b).orders = b.orders ∧ (freePort b).gate = b.gate ∧ (freePort b).expo = b.expo ∧ (freePort b).film
    = b.film ∧ (freePort b).pages = b.pages ∧ (freePort b).charges = b.charges ∧ (freePort b).nv = b.nv ∧
    (freePort b).link = b.link ∧ (freePort b).stand = b.stand ∧ (freePort b).mem = b.mem ∧ (freePort b).nvCycle
    = b.nvCycle ∧ (freePort b).resetPin = b.resetPin ∧ (freePort b).supplyLow = b.supplyLow ∧ (freePort
    b).freeCount = b.freeCount := by
  unfold freePort
  (try dsimp only)
  (repeat' split) <;> simp [*]

@[simp] theorem completePort_frame (spoils : Bool) (sel : Service → Bool) (b : Block) :
    (completePort spoils sel b).resetPin = b.resetPin ∧ (completePort spoils sel b).supplyLow = b.supplyLow := by
  unfold completePort
  (try dsimp only)
  (repeat' split) <;> simp [*]


end Sys2Proof.Machine
end

