-- ==== Sys2Proof/Laws/Path.lean ====
section
/-! SUPPORT. What the bus, the arbiter and the Account Store Port do to the state as an event ends. -/

namespace Sys2Proof.Machine

/-! ## The bus -/

/-- With nothing on the bus and the access not held, `f` serves it. -/
theorem onBus_taken {a : Access} {f : Block → Block} {b : Block} (h : b.path.bus = .idle) (h' : b.holds a = false) :
    onBus a f b = f b := by simp [onBus, h, h']

/-- An access does nothing, is held, or is served. -/
theorem onBus_cases (a : Access) (f : Block → Block) (b : Block) :
    onBus a f b = b ∨ onBus a f b = setBus (.held a) b ∨ onBus a f b = f b := by
  unfold onBus
  (repeat' split) <;> simp

/-- While another access is on the bus, one that is served at once is served, unless it would be held. -/
theorem onBus_busy {a : Access} {f : Block → Block} {b : Block} (h : b.path.bus ≠ .idle) (h' : b.holds a = false)
    (hs : servedAtOnce b.path.straps a = true) : onBus a f b = f b := by simp [onBus, h, h', hs]

/-- While another access is on the bus, one that asks for a memory does not begin. -/
theorem onBus_waits {a : Access} {f : Block → Block} {b : Block} (h : b.path.bus ≠ .idle)
    (hs : servedAtOnce b.path.straps a = false) : onBus a f b = b := by simp [onBus, h, hs]

/-- A field that `f` and a change of the bus keep is kept by an access. -/
theorem onBus_keeps {β : Type} (g : Block → β) {a : Access} {f : Block → Block} {b : Block} (hf : g (f b) = g b)
    (hb : g (setBus (.held a) b) = g b) : g (onBus a f b) = g b := by
  rcases onBus_cases a f b with h | h | h <;> rw [h]
  · exact hb
  · exact hf

/-- In a reached state no access is held. -/
theorem reached_holds {b : Block} (h : b.reached) (a : Access) : b.holds a = false := by
  obtain ⟨_, h2, h3⟩ := h
  simp [Block.holds, h2, h3]

/-- In a reached state a controller access is served. -/
theorem onBus_reached {b : Block} (h : b.reached) (a : Access) (f : Block → Block) : onBus a f b = f b :=
  onBus_taken h.1 (reached_holds h a)

theorem writeAt_reached {b : Block} (h : b.reached) (t : Target) (v : Word) (f : Block → Block) : writeAt t v f b = f b :=
  onBus_reached h _ f

theorem readAt_reached {b : Block} (h : b.reached) (t : Target) (f : Block → Block) : readAt t f b = f b :=
  onBus_reached h _ f

/-- An awake part takes an access that is served at once, whatever is on the bus. -/
theorem onBus_awake {b : Block} (h : b.awake) {a : Access} (hs : servedAtOnce b.path.straps a = true) (f : Block → Block) :
    onBus a f b = f b := by
  have hh : b.holds a = false := by simp [Block.holds, h.1, h.2]
  by_cases hb : b.path.bus = .idle
  · exact onBus_taken hb hh
  · exact onBus_busy hb hh hs

/-! ## What a served access does to memory -/

/-- A served access writes at most its own RAM word. -/
theorem accessMemory_mem (o : Owner) (acc : WordAcc) (last : Bool) (b : Block) :
    (accessMemory o acc last b).mem = b.mem ∨
      ∃ a v, acc = .write a v ∧ a < nvBase ∧ (accessMemory o acc last b).mem = writeWord b.mem a v := by
  unfold accessMemory
  split
  · exact .inl rfl
  · split
    · split <;> exact .inl (by simp)
    · exact .inr ⟨_, _, rfl, by omega, by simp⟩

theorem serve_mem (o : Owner) (acc : WordAcc) (last : Bool) (got : List Word) (b : Block) :
    (serve o acc last got b).mem = (accessMemory o acc last b).mem := by simp [serve]

theorem serve_port (o : Owner) (acc : WordAcc) (last : Bool) (got : List Word) (b : Block) :
    ∃ s, (serve o acc last got b).path.port = some s ∧ s.acc = acc := by simp [serve]

/-- An access taken from a set changes memory only by a RAM word write that it puts in service. -/
theorem serve_changes (o : Owner) (acc : WordAcc) (last : Bool) (got : List Word) (b c : Block)
    (hm : c.mem = (serve o acc last got b).mem) (hp : c.path.port = (serve o acc last got b).path.port) :
    c.mem = b.mem ∨ ∃ s a v, c.path.port = some s ∧ s.acc = .write a v ∧ a < nvBase ∧ c.mem = writeWord b.mem a v := by
  obtain ⟨s, hs, ha⟩ := serve_port o acc last got b
  rcases accessMemory_mem o acc last b with h | ⟨a, v, e, hl, h⟩
  · left; rw [hm, serve_mem, h]
  · right; exact ⟨s, a, v, by rw [hp, hs], by rw [ha, e], hl, by rw [hm, serve_mem, h]⟩

theorem takeHead_mem (b : Block) :
    (takeHead b).mem = b.mem ∨
      ∃ s a v, (takeHead b).path.port = some s ∧ s.acc = .write a v ∧ a < nvBase ∧
        (takeHead b).mem = writeWord b.mem a v := by
  unfold takeHead
  split
  · exact .inl rfl
  · rename_i w tail _
    unfold takePart
    split
    · exact .inl rfl
    · rename_i acc rest _
      exact serve_changes w.owner acc rest.isNone w.got
        (b.setPath { b.path with partList := (restOf w rest).toList ++ tail }) _ (by simp) (by simp)

/-- The arbiter changes memory only by a RAM word write that it puts in service. -/
theorem arbitrate_mem (b : Block) :
    (arbitrate b).mem = b.mem ∨
      ∃ s a v, (arbitrate b).path.port = some s ∧ s.acc = .write a v ∧ a < nvBase ∧
        (arbitrate b).mem = writeWord b.mem a v := by
  unfold arbitrate
  split
  · exact .inl rfl
  · split
    · rename_i w _
      split
      · rename_i x _
        simpa using takeHead_mem (dropWaiting x b)
      · unfold takeController
        split
        · exact .inl rfl
        · rename_i acc rest _
          exact serve_changes w.owner acc rest.isNone w.got b _ (by simp) (by simp)
    · exact takeHead_mem b

/-- The end of an event changes memory only by a RAM word write that it puts in service. -/
theorem settle_mem (b : Block) :
    (settle b).mem = b.mem ∨
      ∃ s a v, (settle b).path.port = some s ∧ s.acc = .write a v ∧ a < nvBase ∧ (settle b).mem = writeWord b.mem a v := by
  have h := arbitrate_mem (nvTake b)
  rw [show (nvTake b).mem = b.mem by simp] at h
  exact h

/-- The end of an event keeps the canonical form. -/
theorem settle_wf {b : Block} (h : Memory.wf b.mem = true) : Memory.wf (settle b).mem = true := by
  rcases settle_mem b with e | ⟨_, a, v, _, _, _, e⟩ <;> rw [e]
  · exact h
  · exact wf_writeWord h a v

theorem arbitrate_wf {b : Block} (h : Memory.wf b.mem = true) : Memory.wf (arbitrate b).mem = true := by
  rcases arbitrate_mem b with e | ⟨_, a, v, _, _, _, e⟩ <;> rw [e]
  · exact h
  · exact wf_writeWord h a v

/-- A byte that the access in service afterwards does not write reads as before. -/
theorem settle_get {b : Block} (h : Memory.wf b.mem = true) {x : Nat} (hx : ¬ (settle b).portWrites x) :
    Memory.get (settle b).mem x = Memory.get b.mem x := by
  rcases settle_mem b with e | ⟨s, a, v, hp, ha, _, e⟩ <;> rw [e]
  exact get_writeWord_other h v (fun hi => hx ⟨s, a, v, hp, ha, hi⟩)

theorem arbitrate_get {b : Block} (h : Memory.wf b.mem = true) {x : Nat} (hx : ¬ (arbitrate b).portWrites x) :
    Memory.get (arbitrate b).mem x = Memory.get b.mem x := by
  rcases arbitrate_mem b with e | ⟨s, a, v, hp, ha, _, e⟩ <;> rw [e]
  exact get_writeWord_other h v (fun hi => hx ⟨s, a, v, hp, ha, hi⟩)

/-- A byte of the NV store reads as before the event's end. -/
theorem settle_get_nv {b : Block} (h : Memory.wf b.mem = true) {x : Nat} (hx : nvBase ≤ x) :
    Memory.get (settle b).mem x = Memory.get b.mem x := by
  rcases settle_mem b with e | ⟨s, a, v, _, _, hl, e⟩ <;> rw [e]
  exact get_writeWord_other h v (fun hi => by
    have := hi.2; simp only [evenAddr, nvBase] at *; omega)

/-! ## The parts of a block that the end of an event leaves alone -/

/-- A field that the memory's part of an access keeps, and that is none of the path's, is kept as the head is taken. -/
theorem takeHead_keeps {β : Type} (g : Block → β) (hp : ∀ c x, g (Block.setPath c x) = g c)
    (ha : ∀ o acc last c, g (accessMemory o acc last c) = g c) (b : Block) : g (takeHead b) = g b := by
  unfold takeHead
  split
  · rfl
  · unfold takePart; split <;> simp [serve, hp, ha]

/-- A field that a refusal and the memory's part of an access keep, and that is none of the path's, is kept by the arbiter. -/
theorem arbitrate_keeps {β : Type} (g : Block → β) (hp : ∀ c x, g (Block.setPath c x) = g c) (hr : ∀ a c, g (refuse a c) = g c)
    (ha : ∀ o acc last c, g (accessMemory o acc last c) = g c) (b : Block) : g (arbitrate b) = g b := by
  unfold arbitrate
  split
  · rfl
  · split
    · split
      · rw [takeHead_keeps g hp ha, dropWaiting, hr, hp]
      · unfold takeController; split <;> simp [serve, hp, ha]
    · exact takeHead_keeps g hp ha b

/-- The shadow leads RAM in words 7 and 8 only. -/
theorem leads_setup (b : Block) (n : Fin 24) {k : Fin 16} (h7 : k.val ≠ 7) (h8 : k.val ≠ 8) : b.leads n k = false := by
  simp [Block.leads, h7, h8]

/-- A served write of an order word leaves a shadow that leads, and else gives it the word's fields. -/
theorem noteWrite_order {a : Nat} {b : Block} {n : Fin 24} {k : Fin 16} (h : decodeAddr b.path.straps a = .order n k) (v : Word) :
    noteWrite a v b = if b.leads n k then b else withShadow n (Shadow.take k v) b := by
  unfold noteWrite; rw [h]

/-- The setup words are all that a write of an order word changes in a shadow. -/
theorem take_keeps (k : Fin 16) (v : Word) (s : Shadow) : (Shadow.take k v s).code = s.code ∧
    (Shadow.take k v s).priority = s.priority ∧ (Shadow.take k v s).writeBacks = s.writeBacks := by
  unfold Shadow.take; split <;> simp

/-- A field of a slot's shadow after one slot's shadow changes. -/
theorem withShadow_keeps {β : Type} (g : Shadow → β) {f : Shadow → Shadow} (hf : ∀ s, g (f s) = g s) (m n : Fin 24)
    (b : Block) : g ((withShadow m f b).shadow n) = g (b.shadow n) := by
  by_cases h : m = n
  · subst h; simp [withShadow, Block.shadow, hf]
  · have h' : m.val ≠ n.val := fun e => h (Fin.ext e)
    simp [withShadow, Block.shadow, h']

theorem accessMemory_shadow {β : Type} (g : Shadow → β) (hg : ∀ k v s, g (Shadow.take k v s) = g s) (n : Fin 24)
    (o : Owner) (acc : WordAcc) (last : Bool) (b : Block) : g ((accessMemory o acc last b).shadow n) = g (b.shadow n) := by
  unfold accessMemory
  split
  · rfl
  · split
    · split <;> simp [Block.shadow]
    · unfold noteWrite
      split
      · split
        · simp [Block.shadow]
        · rw [withShadow_keeps g (hg _ _)]; simp [Block.shadow]
      · simp [Block.shadow]
      · simp [Block.shadow]
      · split <;> simp [Block.shadow]
      · simp [Block.shadow]

/-- A field that no watched word reaches is kept by the memory's part of an access. -/
theorem accessMemory_keeps {β : Type} (g : Block → β) (hm : ∀ c x, g (Block.setMem c x) = g c)
    (hn : ∀ c x, g (Block.setNvCycle c x) = g c) (hw : ∀ a v c, g (noteWrite a v c) = g c)
    (o : Owner) (acc : WordAcc) (last : Bool) (b : Block) : g (accessMemory o acc last b) = g b := by
  unfold accessMemory
  split
  · rfl
  · split
    · split <;> simp [hn]
    · simp [hm, hw]

theorem noteWrite_parts (a : Nat) (v : Word) (b : Block) :
    (noteWrite a v b).orders.lock = b.orders.lock ∧ (noteWrite a v b).orders.deferred = b.orders.deferred ∧
      (noteWrite a v b).expo.lamp = b.expo.lamp ∧ (noteWrite a v b).expo.converting = b.expo.converting ∧
      (noteWrite a v b).expo.reading = b.expo.reading ∧ (noteWrite a v b).expo.density = b.expo.density ∧
      (noteWrite a v b).expo.index = b.expo.index ∧ (noteWrite a v b).expo.clipped = b.expo.clipped ∧
      (noteWrite a v b).expo.lampTime = b.expo.lampTime ∧ (noteWrite a v b).expo.stamp = b.expo.stamp ∧
      (noteWrite a v b).stand.st = b.stand.st ∧ (noteWrite a v b).stand.softReset = b.stand.softReset ∧
      (noteWrite a v b).stand.status = b.stand.status ∧ (noteWrite a v b).stand.latched = b.stand.latched ∧
      (noteWrite a v b).stand.clock = b.stand.clock ∧ (noteWrite a v b).stand.flags = b.stand.flags ∧
      (noteWrite a v b).stand.levels = b.stand.levels := by
  unfold noteWrite
  split
  · split <;> simp [withShadow]
  · simp
  · simp
  · split <;> simp
  · simp

@[simp] theorem raise_parts (n : Notice) (b : Block) :
    (raise n b).stand.st = b.stand.st ∧ (raise n b).stand.softReset = b.stand.softReset ∧
      (raise n b).stand.status = b.stand.status ∧ (raise n b).stand.latched = b.stand.latched ∧
      (raise n b).stand.copy = b.stand.copy ∧ (raise n b).stand.clock = b.stand.clock ∧
      (raise n b).stand.day = b.stand.day ∧ (raise n b).stand.levels = b.stand.levels := by simp [raise]

@[simp] theorem refuse_parts (a : Nat) (b : Block) :
    (refuse a b).stand.st = b.stand.st ∧ (refuse a b).stand.softReset = b.stand.softReset ∧
      (refuse a b).stand.status = b.stand.status ∧ (refuse a b).stand.latched = b.stand.latched ∧
      (refuse a b).stand.copy = b.stand.copy ∧ (refuse a b).stand.clock = b.stand.clock ∧
      (refuse a b).stand.day = b.stand.day ∧ (refuse a b).stand.levels = b.stand.levels ∧
      (refuse a b).path.straps = b.path.straps := by
  unfold refuse; split <;> simp

/-- What the arbiter keeps of the blocks that watch words. -/
@[simp] theorem arbitrate_parts (b : Block) :
    (arbitrate b).orders.lock = b.orders.lock ∧ (arbitrate b).orders.deferred = b.orders.deferred ∧ (arbitrate
    b).expo.lamp = b.expo.lamp ∧ (arbitrate b).expo.converting = b.expo.converting ∧ (arbitrate b).expo.reading
    = b.expo.reading ∧ (arbitrate b).expo.density = b.expo.density ∧ (arbitrate b).expo.index = b.expo.index ∧
    (arbitrate b).expo.clipped = b.expo.clipped ∧ (arbitrate b).expo.lampTime = b.expo.lampTime ∧ (arbitrate
    b).expo.stamp = b.expo.stamp ∧ (arbitrate b).stand.st = b.stand.st ∧ (arbitrate b).stand.softReset =
    b.stand.softReset ∧ (arbitrate b).stand.status = b.stand.status ∧ (arbitrate b).stand.latched =
    b.stand.latched ∧ (arbitrate b).stand.clock = b.stand.clock ∧ (arbitrate b).stand.levels = b.stand.levels := by
  refine ⟨?_, ?_, ?_, ?_, ?_, ?_, ?_, ?_, ?_, ?_, ?_, ?_, ?_, ?_, ?_, ?_⟩
  · exact arbitrate_keeps (·.orders.lock) (fun _ _ => rfl) (by simp)
      (accessMemory_keeps (fun c => c.orders.lock) (fun _ _ => rfl) (fun _ _ => rfl) (fun a v c => (noteWrite_parts a v c).1)) b
  · exact arbitrate_keeps (·.orders.deferred) (fun _ _ => rfl) (by simp)
      (accessMemory_keeps (fun c => c.orders.deferred) (fun _ _ => rfl) (fun _ _ => rfl) (fun a v c => (noteWrite_parts a v c).2.1)) b
  · exact arbitrate_keeps (·.expo.lamp) (fun _ _ => rfl) (by simp)
      (accessMemory_keeps (fun c => c.expo.lamp) (fun _ _ => rfl) (fun _ _ => rfl) (fun a v c => (noteWrite_parts a v c).2.2.1)) b
  · exact arbitrate_keeps (·.expo.converting) (fun _ _ => rfl) (by simp)
      (accessMemory_keeps (fun c => c.expo.converting) (fun _ _ => rfl) (fun _ _ => rfl) (fun a v c => (noteWrite_parts a v c).2.2.2.1)) b
  · exact arbitrate_keeps (·.expo.reading) (fun _ _ => rfl) (by simp)
      (accessMemory_keeps (fun c => c.expo.reading) (fun _ _ => rfl) (fun _ _ => rfl) (fun a v c => (noteWrite_parts a v c).2.2.2.2.1)) b
  · exact arbitrate_keeps (·.expo.density) (fun _ _ => rfl) (by simp)
      (accessMemory_keeps (fun c => c.expo.density) (fun _ _ => rfl) (fun _ _ => rfl) (fun a v c => (noteWrite_parts a v c).2.2.2.2.2.1)) b
  · exact arbitrate_keeps (·.expo.index) (fun _ _ => rfl) (by simp)
      (accessMemory_keeps (fun c => c.expo.index) (fun _ _ => rfl) (fun _ _ => rfl) (fun a v c => (noteWrite_parts a v c).2.2.2.2.2.2.1)) b
  · exact arbitrate_keeps (·.expo.clipped) (fun _ _ => rfl) (by simp)
      (accessMemory_keeps (fun c => c.expo.clipped) (fun _ _ => rfl) (fun _ _ => rfl) (fun a v c => (noteWrite_parts a v c).2.2.2.2.2.2.2.1)) b
  · exact arbitrate_keeps (·.expo.lampTime) (fun _ _ => rfl) (by simp)
      (accessMemory_keeps (fun c => c.expo.lampTime) (fun _ _ => rfl) (fun _ _ => rfl) (fun a v c => (noteWrite_parts a v c).2.2.2.2.2.2.2.2.1)) b
  · exact arbitrate_keeps (·.expo.stamp) (fun _ _ => rfl) (by simp)
      (accessMemory_keeps (fun c => c.expo.stamp) (fun _ _ => rfl) (fun _ _ => rfl) (fun a v c => (noteWrite_parts a v c).2.2.2.2.2.2.2.2.2.1)) b
  · exact arbitrate_keeps (·.stand.st) (fun _ _ => rfl) (by simp)
      (accessMemory_keeps (fun c => c.stand.st) (fun _ _ => rfl) (fun _ _ => rfl) (fun a v c => (noteWrite_parts a v c).2.2.2.2.2.2.2.2.2.2.1)) b
  · exact arbitrate_keeps (·.stand.softReset) (fun _ _ => rfl) (by simp)
      (accessMemory_keeps (fun c => c.stand.softReset) (fun _ _ => rfl) (fun _ _ => rfl) (fun a v c => (noteWrite_parts a v c).2.2.2.2.2.2.2.2.2.2.2.1)) b
  · exact arbitrate_keeps (·.stand.status) (fun _ _ => rfl) (by simp)
      (accessMemory_keeps (fun c => c.stand.status) (fun _ _ => rfl) (fun _ _ => rfl) (fun a v c => (noteWrite_parts a v c).2.2.2.2.2.2.2.2.2.2.2.2.1)) b
  · exact arbitrate_keeps (·.stand.latched) (fun _ _ => rfl) (by simp)
      (accessMemory_keeps (fun c => c.stand.latched) (fun _ _ => rfl) (fun _ _ => rfl) (fun a v c => (noteWrite_parts a v c).2.2.2.2.2.2.2.2.2.2.2.2.2.1)) b
  · exact arbitrate_keeps (·.stand.clock) (fun _ _ => rfl) (by simp)
      (accessMemory_keeps (fun c => c.stand.clock) (fun _ _ => rfl) (fun _ _ => rfl) (fun a v c => (noteWrite_parts a v c).2.2.2.2.2.2.2.2.2.2.2.2.2.2.1)) b
  · exact arbitrate_keeps (·.stand.levels) (fun _ _ => rfl) (by simp)
      (accessMemory_keeps (fun c => c.stand.levels) (fun _ _ => rfl) (fun _ _ => rfl) (fun a v c => (noteWrite_parts a v c).2.2.2.2.2.2.2.2.2.2.2.2.2.2.2.2)) b

/-- What the arbiter keeps of a slot's shadow. -/
@[simp] theorem arbitrate_shadow (b : Block) (n : Fin 24) :
    ((arbitrate b).shadow n).code = (b.shadow n).code ∧ ((arbitrate b).shadow n).priority = (b.shadow n).priority ∧
      ((arbitrate b).shadow n).writeBacks = (b.shadow n).writeBacks := by
  refine ⟨?_, ?_, ?_⟩
  · exact arbitrate_keeps (fun c => (c.shadow n).code) (fun _ _ => rfl) (by simp [Block.shadow]) (accessMemory_shadow _ (by simp [take_keeps]) n) b
  · exact arbitrate_keeps (fun c => (c.shadow n).priority) (fun _ _ => rfl) (by simp [Block.shadow]) (accessMemory_shadow _ (by simp [take_keeps]) n) b
  · exact arbitrate_keeps (fun c => (c.shadow n).writeBacks) (fun _ _ => rfl) (by simp [Block.shadow]) (accessMemory_shadow _ (by simp [take_keeps]) n) b

/-- The straps stand through the arbiter. -/
@[simp] theorem takeHead_straps (b : Block) : (takeHead b).path.straps = b.path.straps := by
  unfold takeHead takePart
  (repeat' split) <;> simp [serve]

@[simp] theorem dropWaiting_straps (a : Nat) (b : Block) : (dropWaiting a b).path.straps = b.path.straps := by
  simp [dropWaiting]

@[simp] theorem arbitrate_straps (b : Block) : (arbitrate b).path.straps = b.path.straps := by
  unfold arbitrate takeController
  (repeat' split) <;> simp [serve]

/-! ## What the Account Store Port keeps as it takes a claim -/

@[simp] theorem setBus_straps (x : Bus) (b : Block) : (setBus x b).path.straps = b.path.straps := rfl

@[simp] theorem issue_straps (o : Owner) (w : Work) (b : Block) : (issue o w b).path.straps = b.path.straps := by
  simp [issue]

@[simp] theorem waitAtPort_straps (o : Owner) (l : List WordAcc) (b : Block) :
    (waitAtPort o l b).path.straps = b.path.straps := by simp [waitAtPort]

@[simp] theorem takeControllerClaim_parts (b : Block) :
    (takeControllerClaim b).charges.queue = b.charges.queue ∧ (takeControllerClaim b).charges.reserved =
    b.charges.reserved ∧ (takeControllerClaim b).charges.unposted = b.charges.unposted ∧ (takeControllerClaim
    b).charges.readStage = b.charges.readStage ∧ (takeControllerClaim b).charges.writeStage =
    b.charges.writeStage ∧ (takeControllerClaim b).charges.lastFaulted = b.charges.lastFaulted ∧
    (takeControllerClaim b).nv.gateOpen = b.nv.gateOpen ∧ (takeControllerClaim b).nv.fill = b.nv.fill ∧
    (takeControllerClaim b).nv.stopping = b.nv.stopping ∧ (takeControllerClaim b).nv.progress = b.nv.progress ∧
    (takeControllerClaim b).nv.opening = b.nv.opening ∧ (takeControllerClaim b).nv.fillAmount = b.nv.fillAmount
    ∧ (takeControllerClaim b).stand.st = b.stand.st ∧ (takeControllerClaim b).stand.softReset =
    b.stand.softReset ∧ (takeControllerClaim b).stand.status = b.stand.status ∧ (takeControllerClaim
    b).stand.latched = b.stand.latched ∧ (takeControllerClaim b).stand.copy = b.stand.copy ∧
    (takeControllerClaim b).stand.clock = b.stand.clock ∧ (takeControllerClaim b).stand.day = b.stand.day ∧
    (takeControllerClaim b).stand.levels = b.stand.levels ∧ (takeControllerClaim b).path.straps = b.path.straps := by
  unfold takeControllerClaim
  (try dsimp only)
  (repeat' split) <;> simp [beginClaim, latchWords, *]

@[simp] theorem takePartClaim_parts (b : Block) :
    (takePartClaim b).charges.queue = b.charges.queue ∧ (takePartClaim b).charges.reserved = b.charges.reserved
    ∧ (takePartClaim b).charges.unposted = b.charges.unposted ∧ (takePartClaim b).charges.readStage =
    b.charges.readStage ∧ (takePartClaim b).charges.writeStage = b.charges.writeStage ∧ (takePartClaim
    b).charges.lastFaulted = b.charges.lastFaulted ∧ (takePartClaim b).nv.gateOpen = b.nv.gateOpen ∧
    (takePartClaim b).nv.fill = b.nv.fill ∧ (takePartClaim b).nv.stopping = b.nv.stopping ∧ (takePartClaim
    b).nv.progress = b.nv.progress ∧ (takePartClaim b).nv.opening = b.nv.opening ∧ (takePartClaim
    b).nv.fillAmount = b.nv.fillAmount ∧ (takePartClaim b).stand.st = b.stand.st ∧ (takePartClaim
    b).stand.softReset = b.stand.softReset ∧ (takePartClaim b).stand.status = b.stand.status ∧ (takePartClaim
    b).stand.latched = b.stand.latched ∧ (takePartClaim b).stand.copy = b.stand.copy ∧ (takePartClaim
    b).stand.clock = b.stand.clock ∧ (takePartClaim b).stand.day = b.stand.day ∧ (takePartClaim b).stand.levels
    = b.stand.levels ∧ (takePartClaim b).path.straps = b.path.straps := by
  unfold takePartClaim
  (try dsimp only)
  (repeat' split) <;> simp [beginClaim, *]

@[simp] theorem nvTake_parts (b : Block) :
    (nvTake b).charges.queue = b.charges.queue ∧ (nvTake b).charges.reserved = b.charges.reserved ∧ (nvTake
    b).charges.unposted = b.charges.unposted ∧ (nvTake b).charges.readStage = b.charges.readStage ∧ (nvTake
    b).charges.writeStage = b.charges.writeStage ∧ (nvTake b).charges.lastFaulted = b.charges.lastFaulted ∧
    (nvTake b).nv.gateOpen = b.nv.gateOpen ∧ (nvTake b).nv.fill = b.nv.fill ∧ (nvTake b).nv.stopping =
    b.nv.stopping ∧ (nvTake b).nv.progress = b.nv.progress ∧ (nvTake b).nv.opening = b.nv.opening ∧ (nvTake
    b).nv.fillAmount = b.nv.fillAmount ∧ (nvTake b).stand.st = b.stand.st ∧ (nvTake b).stand.softReset =
    b.stand.softReset ∧ (nvTake b).stand.status = b.stand.status ∧ (nvTake b).stand.latched = b.stand.latched ∧
    (nvTake b).stand.copy = b.stand.copy ∧ (nvTake b).stand.clock = b.stand.clock ∧ (nvTake b).stand.day =
    b.stand.day ∧ (nvTake b).stand.levels = b.stand.levels ∧ (nvTake b).path.straps = b.path.straps := by
  unfold nvTake
  (try dsimp only)
  (repeat' split) <;> simp [*]

/-- What the end of an event keeps, beside the blocks it does not touch (`settle_frame`). -/
@[simp] theorem settle_parts (b : Block) :
    (settle b).orders.lock = b.orders.lock ∧ (settle b).orders.deferred = b.orders.deferred ∧ (settle
    b).expo.lamp = b.expo.lamp ∧ (settle b).expo.converting = b.expo.converting ∧ (settle b).expo.reading =
    b.expo.reading ∧ (settle b).expo.density = b.expo.density ∧ (settle b).expo.index = b.expo.index ∧ (settle
    b).expo.clipped = b.expo.clipped ∧ (settle b).expo.lampTime = b.expo.lampTime ∧ (settle b).expo.stamp =
    b.expo.stamp ∧ (settle b).stand.st = b.stand.st ∧ (settle b).stand.softReset = b.stand.softReset ∧ (settle
    b).stand.status = b.stand.status ∧ (settle b).stand.latched = b.stand.latched ∧ (settle b).stand.clock =
    b.stand.clock ∧ (settle b).stand.levels = b.stand.levels ∧ (settle b).charges.queue = b.charges.queue ∧
    (settle b).charges.reserved = b.charges.reserved ∧ (settle b).charges.unposted = b.charges.unposted ∧
    (settle b).charges.readStage = b.charges.readStage ∧ (settle b).charges.writeStage = b.charges.writeStage ∧
    (settle b).charges.lastFaulted = b.charges.lastFaulted ∧ (settle b).nv.gateOpen = b.nv.gateOpen ∧ (settle
    b).nv.fill = b.nv.fill ∧ (settle b).nv.stopping = b.nv.stopping ∧ (settle b).nv.progress = b.nv.progress ∧
    (settle b).nv.opening = b.nv.opening ∧ (settle b).nv.fillAmount = b.nv.fillAmount ∧ (settle b).path.straps =
    b.path.straps := by
  simp [settle]

@[simp] theorem nvTake_shadow (b : Block) (n : Fin 24) : (nvTake b).shadow n = b.shadow n := by simp [Block.shadow]

/-- What the end of an event keeps of a slot's shadow. -/
@[simp] theorem settle_shadow (b : Block) (n : Fin 24) :
    ((settle b).shadow n).code = (b.shadow n).code ∧ ((settle b).shadow n).priority = (b.shadow n).priority ∧
      ((settle b).shadow n).writeBacks = (b.shadow n).writeBacks := by
  simp [settle]

/-- A notice other than REFUSED stands through the end of an event. -/
theorem settle_flag (b : Block) {n : Notice} (h : n ≠ .refused) : (settle b).flag n = b.flag n := by
  have h6 : n.index ≠ 6 := by cases n <;> simp_all [Notice.index]
  have hr : ∀ (a : Nat) (c : Block), (refuse a c).flag n = c.flag n := by
    intro a c
    have e : Notice.refused.index = 6 := rfl
    unfold refuse raise Block.flag
    split <;> simp [e, BitVec.getLsbD_or, BitVec.getLsbD_twoPow] <;> omega
  have hc : (takeControllerClaim b).flag n = b.flag n := by
    unfold takeControllerClaim
    dsimp only
    (repeat' split) <;> first | (rw [hr]; rfl) | rfl
  have hp : ∀ c, (takePartClaim c).flag n = c.flag n := fun c => by simp [Block.flag]
  have hn : (nvTake b).flag n = b.flag n := by
    unfold nvTake
    dsimp only
    (repeat' split) <;> simp only [hp, hc]
  rw [← hn]
  have hw : ∀ a v (c : Block), (noteWrite a v c).flag n = c.flag n := fun a v c => by
    unfold noteWrite; (repeat' split) <;> simp [Block.flag]
  exact arbitrate_keeps (fun c => c.flag n) (fun _ _ => rfl) hr
    (fun o acc l c => accessMemory_keeps (fun c => c.flag n) (fun _ _ => rfl) (fun _ _ => rfl) hw o acc l c) _

/-! ## The memory port and REFUSED as the Account Store Port takes a claim -/

@[simp] theorem refuse_port (a : Nat) (b : Block) : (refuse a b).path.port = b.path.port := by
  unfold refuse; split <;> simp

@[simp] theorem setBus_port (x : Bus) (b : Block) : (setBus x b).path.port = b.path.port := rfl
@[simp] theorem waitAtPort_port (o : Owner) (l : List WordAcc) (b : Block) : (waitAtPort o l b).path.port = b.path.port := rfl
@[simp] theorem issue_port (o : Owner) (w : Work) (b : Block) : (issue o w b).path.port = b.path.port := rfl

theorem takeControllerClaim_port (b : Block) : (takeControllerClaim b).path.port = b.path.port := by
  unfold takeControllerClaim; dsimp only
  (repeat' split) <;> simp [beginClaim, latchWords]

theorem takePartClaim_port (b : Block) : (takePartClaim b).path.port = b.path.port := by
  unfold takePartClaim; dsimp only
  (repeat' split) <;> simp [beginClaim]

/-- Taking a claim does not take an access. -/
@[simp] theorem nvTake_port (b : Block) : (nvTake b).path.port = b.path.port := by
  unfold nvTake; dsimp only
  (repeat' split) <;> simp [takeControllerClaim_port, takePartClaim_port]

/-- With the memory port busy, the end of an event takes at most a claim. -/
theorem settle_busy {b : Block} (h : b.path.port.isSome = true) : settle b = nvTake b := by
  simp [settle, arbitrate, h]

/-- A write that is refused leaves the REFUSED flag set. -/
@[simp] theorem refuse_refused (a : Nat) (b : Block) : (refuse a b).flag .refused = true := by
  have e : Notice.refused.index = 6 := rfl
  unfold refuse raise Block.flag
  simp [e]

/-- With a memory access on the bus, the Account Store Port takes no claim of the controller. -/
theorem nvTake_memory {b : Block} {x : Access} (h : b.path.bus = .memory x) :
    (nvTake b).path.ctlWait = b.path.ctlWait ∧ (nvTake b).path.bus = b.path.bus ∧ (nvTake b).stand = b.stand := by
  have e : takeControllerClaim b = b := by unfold takeControllerClaim; simp [h]
  unfold nvTake; dsimp only; rw [e]
  by_cases hf : b.nvFree = true
  · simp only [hf, if_true]
    unfold takePartClaim; (repeat' split) <;> simp [beginClaim, issue]
  · simp [hf]

/-- A controller write that finds the port free is stored, and its owner takes note, in the access, unless it is guarded and
the condition for storing it fails. -/
theorem settle_store {b : Block} (hp : b.path.port = none) (hr : b.inReset = false) {a : Nat} (v : Word)
    (ha : evenAddr a < nvBase) (hg : b.refusesStore a = false) :
    settle (memoryAccess (.write a v) b) =
      (noteWrite (evenAddr a) v ((nvTake (memoryAccess (.write a v) b)).setMem (writeWord b.mem (evenAddr a) v))).setPath
        { (nvTake (memoryAccess (.write a v) b)).path with
          ctlWait := none,
          port := some { owner := .controller, acc := .write (evenAddr a) v, data := 0, last := true, got := [] } } := by
  set d := memoryAccess (.write a v) b with hd
  have hbus : d.path.bus = .memory (.write a v) := by simp [hd, memoryAccess, waitAtPort, setBus]
  have hcw : d.path.ctlWait = some { owner := .controller, work := .words [.write (evenAddr a) v], got := [] } := by
    simp [hd, memoryAccess, waitAtPort, setBus, accessWord]
  obtain ⟨h1, h2, h4⟩ := nvTake_memory hbus
  have hport : (nvTake d).path.port = none := by simp [hd, memoryAccess, waitAtPort, setBus, hp]
  have hres : (nvTake d).inReset = false := by simpa [hd, Block.inReset, memoryAccess, waitAtPort, setBus] using hr
  have hm : d.mem = b.mem := by simp [hd, memoryAccess, waitAtPort, setBus]
  unfold settle arbitrate
  have hx : (nvTake d).path.ctlWait = some { owner := .controller, work := .words [.write (evenAddr a) v], got := [] } :=
    h1.trans hcw
  have hw : (nvTake d).waitingRefused = none := by
    have e1 : (nvTake d).path.straps = b.path.straps := by simp [hd, memoryAccess, waitAtPort, setBus]
    have e2 : (nvTake d).pages = b.pages := by simp [hd, memoryAccess, waitAtPort, setBus]
    have e3 : (nvTake d).stand = b.stand := by rw [h4]; simp [hd, memoryAccess, waitAtPort, setBus]
    have e : (nvTake d).refusesStore a = false := by
      rw [← hg]; unfold Block.refusesStore; rw [e1, e2, e3]
    simp [Block.waitingRefused, h2, hbus, e]
  simp only [hres, hport, Option.isSome_none, Bool.or_self, Bool.false_eq_true, if_false, hx, hw]
  simp only [takeController, nextAcc, firstOf, serve, accessMemory, if_neg (show ¬ nvBase ≤ evenAddr a by omega), restOf,
    Option.map, accessData, nvTake_frame, hm]
  simp [Block.setPath]

/-- A slot's shadow after a change of one slot's shadow. -/
theorem shadow_withShadow (m n : Fin 24) (f : Shadow → Shadow) (b : Block) :
    (withShadow m f b).shadow n = if m = n then f (b.shadow n) else b.shadow n := by
  unfold withShadow Block.shadow
  by_cases h : m = n
  · subst h; simp
  · have : m.val ≠ n.val := fun e => h (Fin.ext e)
    simp [h, this]

/-- An access the arbiter takes gives the controller no answer. -/
theorem arbitrate_readData (b : Block) : (arbitrate b).path.readData = b.path.readData := by
  have hs : ∀ o acc last got, (serve o acc last got b).path.readData = b.path.readData := fun o acc last got => by simp [serve]
  have hh : ∀ c : Block, (takeHead c).path.readData = c.path.readData := by
    intro c
    unfold takeHead
    split
    · rfl
    · unfold takePart; split <;> simp [serve]
  unfold arbitrate
  split
  · rfl
  · split
    · split
      · rw [hh]; unfold dropWaiting refuse; split <;> simp
      · unfold takeController; split <;> simp [hs]
    · exact hh b

end Sys2Proof.Machine
end

