-- ==== Sys2Proof/Tests/Slice0.lean ====
section
/-! SUPPORT. Tests: an ill-formed command for each check, the guide's worked figures, and for each statement of Obligations.lean
with hypotheses a state that meets them, clause by clause and at the ends of ranges. -/

namespace Sys2Proof.Tests

open Sys2Proof Sys2Proof.Machine

/-! ## Small states -/

/-- The stand HELD after its initialisation, nothing on the path; straps 3. -/
def idlePath : Path :=
  { straps := 3, refusedAddr := 0, refusedStage := 0, port := none, bus := .idle, ctlWait := none, partList := [], readData := 0 }

def ready : Block := { State.reset.part with path := idlePath, stand := { Stand.start with st := .held } }

def running : Block := { ready with stand := { Stand.start with st := .running } }

def on (b : Block) : State := { pending := [.arrive], part := b }

def entry (st : EntryState) : Entry := { Entry.candidate 5 with st := st, copies := 2, steps := 3, offsets := [0, -3, 3] }

def active (ph : StepPhase) : ActiveOrder :=
  { index := 0, slot := 5, account := 7, rate := 0, copies := 2, template := some 4, steps := 3, offsets := [0, -3, 3], limit := 0,
    phase := ph, first := none, charged := 0 }

def gateIn (st : GateState) : Block := { running with gate := { Gate.start with st := st } }

/-- A cycle serving slot 5, its step in a phase. -/
def serving (ph : StepPhase) : Block :=
  { running with gate := { Gate.start with
      st := .serving, list := [entry .active], active := some (active ph), result := some (Vector.replicate 9 0) } }

/-- The last access of an owner's set in service, with the words read. -/
def service (o : Owner) (got : List Word) : Service := { owner := o, acc := .read 0x1E000, data := 0, last := true, got := got }

def inService (o : Owner) (got : List Word) (b : Block) : Block := b.setPath { b.path with port := some (service o got) }

def filmIn (st : FilmState) : Film := { Film.start false with st := st, length := 12, page := some 1, limit := 50, pulsesPerFrame := 8 }

def pageIn (st : PageState) (used : Nat) (l : LabelState) : Page :=
  { Page.start with st := st, used := used, frames := Page.start.frames.set 0 { Frame.start with label := l } }

/-- Page 2 in a state, its first frame with a label state. -/
def withPage2 (st : PageState) (l : LabelState) : Block :=
  { running with pages := { Pages.start with
      pages := Pages.start.pages.set 2 (pageIn st 1 l), printQueue := if st = .returned then [2] else [] } }

def posting : Posting := { account := 127, delta := -9999, kind := .charge, page := 0, frame := 0 }

def withQueue (n : Nat) (b : Block) : Block := b.setCharges { b.charges with queue := List.replicate n posting }

/-! ## Well-formedness refuses an ill-formed term at each check -/

theorem test_wf_setup_word :
    (Instr.orderSetupWrite 0 0 0).wf = false ∧ (Instr.orderSetupWrite 0 7 0).wf = false
      ∧ (Instr.orderSetupWrite 0 1 0).wf = true ∧ (Instr.orderSetupWrite 0 6 0).wf = true := by decide

theorem test_wf_result_word :
    (Instr.orderResultWordWrite 0 6 0).wf = false ∧ (Instr.orderResultWordWrite 0 9 0).wf = false
      ∧ (Instr.orderResultWordWrite 0 7 0).wf = true ∧ (Instr.orderResultWordWrite 0 8 0).wf = true := by decide

theorem test_wf_template_word :
    (Instr.templateLineWrite 0 0 0).wf = false ∧ (Instr.templateLineWrite 0 25 0).wf = false
      ∧ (Instr.templateLineWrite 0 1 0).wf = true ∧ (Instr.templateLineWrite 0 24 0).wf = true := by decide

theorem test_wf_general_area :
    (Instr.generalAreaWrite 0x3FF 0).wf = false ∧ (Instr.generalAreaWrite 0x400 0).wf = true := by decide

theorem test_wf_refused_write :
    (Instr.refusedWrite 0x20000 0).wf = false ∧ (Instr.refusedWrite 0x1FFFF 0).wf = true := by decide

theorem test_wf_memory_access :
    (Instr.controllerMemoryAccess (.read 0x20000)).wf = false ∧ (Instr.controllerMemoryAccess (.write 0x21FFF 0)).wf = false
      ∧ (Instr.controllerMemoryAccess (.read 0x1FFFF)).wf = true ∧ (Instr.controllerMemoryAccess (.read 0x22000)).wf = true := by
  decide

/-! ## Figures of the guide -/

/-- R49's table. -/
theorem test_density :
    [998, 1023, 972, 997, 608, 633, 10, 35, 0, 9].map (fun r => densityIndex (BitVec.ofNat 10 r))
      = [0, 0, 1, 1, 15, 15, 38, 38, 39, 39] := by decide

/-- The ends of R54's range of raw values. -/
theorem test_clamp : [-25, -1, 0, 63, 64].map clampIndex = [0, 0, 0, 63, 63] := by decide

/-- The check word example of chapter 11, before and after the posting of -150 cents. -/
theorem test_check_word :
    checkWord [0x0101, 0xD090, 0x0003, 0xFE0C, 0xFFFF, 0x0028, 0x0A10] = 0x2628
      ∧ recordSound [0x0101, 0xD090, 0x0003, 0xFE0C, 0xFFFF, 0x0028, 0x0A10, 0x2628] = true
      ∧ postedRecord [0x0101, 0xD090, 0x0003, 0xFE0C, 0xFFFF, 0x0028, 0x0A10, 0x2628] { posting with delta := -150 } 0x0A10
        = [0x0101, 0xCFFA, 0x0003, 0xFE0C, 0xFFFF, 0x0029, 0x0A10, 0x26BD] := by decide

/-- R132's examples: slide 0x0C2F gives 012-047; roll 9 and frame 5 give 00009/05. -/
theorem test_label_fields :
    let x : LabelFields := { ref := 0x0C2F, roll := 9, position := 5, step := 1, series := 1, day := 0, account := 0, copy := 1 }
    byteText x 1 = [0x30, 0x31, 0x32, 0x2D, 0x30, 0x34, 0x37]
      ∧ byteText x 2 = [0x30, 0x30, 0x30, 0x30, 0x39, 0x2F, 0x30, 0x35] := by decide

/-- Seven bits set: even parity sends a 1, odd parity a 0 (R137). -/
theorem test_parity : parityBitOf .even 0x7F = some true ∧ parityBitOf .odd 0x7F = some false ∧ parityBitOf .none 0x7F = none := by
  decide

/-- Hold of 2 copies of a three-step scheme in class 0: 540 cents (5.2). -/
theorem test_hold : Settings.holdAmount settingsDefaults 0 2 3 = 540 := by decide

/-- The defaults are valid; a bright threshold equal to the dark one is not (R166). -/
theorem test_settings :
    Settings.firstInvalid settingsDefaults = none ∧ Settings.firstInvalid (settingsDefaults.set 3 40) = some 3 := by decide

/-- The initialisation's first and last write (R175). -/
theorem test_init : initWrite 0 0 = .write 0x18000 0 ∧ initWrite 0 2911 = .write 0x197EE 0 := by decide

/-- R140's example: frame 5 of page 1, slide 0x0C2F, line 1 the reference field and spaces. -/
theorem test_message :
    let got : List Word := [0x1100, 0x0C2F, 0, 0, 0, 0, 0x2001] ++ List.replicate 23 0x2020
    let m := composedBytes Page.start 1 4 got
    m.length = 54 ∧ m.take 11 = [0x02, 1, 5, 0x30, 0x31, 0x32, 0x2D, 0x30, 0x34, 0x37, 0x20] ∧ m[27]? = some 0x1F
      ∧ m.drop 52 = [0x81, 0x03] := by decide

/-- A command from the front of the queue: HOLD with the stand RUNNING. -/
theorem test_step_hold :
    ∃ b, step { pending := [.hold, .run], part := running } = .next { pending := [.run], part := b } ∧ b.stand.st = .held :=
  ⟨_, rfl, rfl⟩

/-! ## For each statement with hypotheses, states that meet them, clause by clause -/

/-- Memory with a RAM byte and a byte of the NV store listed. -/
def someMem : List Host.Cell := [(0, 1), (0x21FFF, 0)]

theorem witness_MemoryCanonicalKept :
    MemoryCanonical (on { running with mem := someMem }) ∧ ∃ t, step (on { running with mem := someMem }) = .next t :=
  ⟨rfl, _, rfl⟩

/-- A full queue; and seven postings beside the reservation of an exposure in progress. -/
theorem witness_PostingsFitKept :
    (PostingsFit (on (withQueue 8 running)) ∧ ∃ t, step (on (withQueue 8 running)) = .next t)
      ∧ (PostingsFit (on ((withQueue 7 (serving .exposing)).setCharges { (withQueue 7 running).charges with reserved := 1 }))
        ∧ ((serving .exposing).exposing)) :=
  ⟨⟨⟨by decide, by rintro ⟨a, h, _⟩; cases h⟩, _, rfl⟩, ⟨by decide, fun _ => by decide⟩, _, rfl, rfl⟩

theorem witness_AddressMapRoundTrips :
    (0x22000 ≤ 0x22000 ∧ (1 : Nat) ≤ 1)
      ∧ (0x1E0C0 % 2 = 0 ∧ 0x1E0C0 < nvBase ∧ plainOffset (0x1E0C0 - windowBase 3))
      ∧ (0x1FFFE % 2 = 0 ∧ 0x1FFFE < nvBase ∧ plainOffset (0x1FFFE - windowBase 3))
      ∧ (0x1E540 < nvBase ∧ plainOffset (0x1E540 - windowBase 3) ∧ plainOffset (0x1ED70 - windowBase 3))
      ∧ (0x17FFE % 2 = 0 ∧ 0x17FFE < nvBase ∧ inWindow 0 0x17FFE = false) := by
  simp only [plainOffset]; decide

/-- A plain write with the port free, byte 2 outside it; and the ready event of a cycle that covers the NV store's first word. -/
theorem witness_MemoryBytesStand :
    (let c := Instr.controllerMemoryAccess (.write 0 0x1234)
     MemoryCanonical (on ready) ∧ losesSupply c = false ∧ (∃ t, exec c (on ready) = .next t ∧ ¬ t.part.portWrites 2)
       ∧ ¬ ready.cycleCovers 2)
      ∧ (let b : Block := { ready with nvCycle := some [(0x20000, 0)] }
         MemoryCanonical (on b) ∧ b.cycleCovers 0x20001
           ∧ ∃ t, exec .nvReadyAfterReset (on b) = .next t ∧ Memory.get t.part.mem 0x20000 ≠ Memory.get b.mem 0x20000) := by
  refine ⟨⟨rfl, rfl, ⟨_, rfl, ?_⟩, ?_⟩, rfl, ⟨_, rfl, _, List.mem_singleton_self _, by simp only [inWord]; decide⟩,
    _, rfl, by decide⟩
  · rintro ⟨s, a, v, h, h2, h3⟩
    obtain rfl := Option.some.inj h
    obtain ⟨rfl, -⟩ := WordAcc.write.inj h2
    revert h3; simp only [inWord]; decide
  · rintro ⟨l, h, _⟩; cases h

theorem witness_EventEndKeeps :
    State.reset.part.path.port.isSome = true ∧ { State.reset.part with resetPin := true }.nvFree = false
      ∧ (raise .refused ready).flag .refused = true := by decide

/-- One set in the part list, and one of the controller. -/
def listed : WordSet := { owner := .planningRead, work := .words [.read 0x20000, .read 0x20002], got := [] }

def asked : WordSet := { owner := .controller, work := .words [.read 0], got := [] }

/-- A settings write that waits for the memory port. -/
def guardedWait (b : Block) : Block :=
  b.setPath { idlePath with
    bus := .memory (.write 0x1E080 1), ctlWait := some { asked with work := .words [.write 0x1E080 1] } }

/-- A write that waits for the Account Store Port. -/
def busWaits (b : Block) : Block := b.setPath { idlePath with bus := .nvWait (.write 0x20000 1) }

/-- Two service write-backs of slot 5, cut down to words 7 and 8: the older at the head of the part list, the newer behind it; the
shadow has the newer values (R7). -/
def twoWriteBacks : Block :=
  let set (v : Word) : WordSet :=
    { owner := .writeBack 5 true, work := .words [.write 0x1E2AE v, .write 0x1E2B0 v], got := [] }
  ready.setPath { idlePath with partList := [set 1, set 2] }
    |>.setOrders { Orders.start with shadows := Orders.start.shadows.set 5 { Shadow.start with lastServed := 2, served := 2 } }

/-- The older write-back's word reaches RAM and the shadow keeps the newer value; with the newer one alone, its word is taken. -/
theorem test_shadow_leads :
    (let b := arbitrate twoWriteBacks
     readWord b.mem 0x1E2AE = 1 ∧ (b.shadow 5).lastServed = 2 ∧ b.leads 5 7 = true ∧ b.leads 5 8 = true)
      ∧ (let b := twoWriteBacks.setPath { twoWriteBacks.path with partList := twoWriteBacks.path.partList.take 1 }
         b.leads 5 7 = true ∧ (arbitrate b).leads 5 7 = false ∧ ((arbitrate b).shadow 5).lastServed = 1) := by
  and_intros <;> decide +kernel

theorem witness_ArbiterServesControllerFirst :
    State.reset.part.path.port.isSome = true ∧ { ready with resetPin := true }.inReset = true
      ∧ (ready.inReset = false ∧ ready.path.port = none ∧ ready.path.ctlWait = none ∧ ready.path.partList = [])
      ∧ (let b : Block := { ready with path := { idlePath with ctlWait := some asked, partList := [listed] } }
         b.inReset = false ∧ b.path.port = none ∧ b.path.ctlWait = some asked ∧ b.path.bus = .idle
           ∧ nextAcc b asked.work = some (.read 0, none))
      ∧ ((guardedWait ready).path.bus = .memory (.write 0x1E080 1) ∧ (guardedWait ready).path.ctlWait.isSome = true
        ∧ decodeAddr 3 0x1E080 = .settings 0 ∧ ready.stand.st = .held ∧ running.stand.st ≠ .held
        ∧ (guardedWait running).inReset = false ∧ (guardedWait running).path.port = none)
      ∧ (decodeAddr 3 0x1E602 = .template 0 1 ∧ decodeAddr 3 0x1E9F0 = .template 15 24
        ∧ Pages.start.useCount[(0 : Fin 16)] = 0 ∧ (Pages.start.useCount.set 15 1)[(15 : Fin 16)] ≠ 0)
      ∧ (let b : Block := { ready with path := { idlePath with partList := [listed] } }
         b.inReset = false ∧ b.path.port = none ∧ b.path.ctlWait = none ∧ b.path.partList = [listed]
           ∧ nextAcc b listed.work = some (.read 0x20000, some (.words [.read 0x20002])))
      ∧ (nextAcc ready (.clear 3 431) = some (.write 0x1F7EE 0, none)
        ∧ nextAcc ready (.init 2910) = some (.write 0x1F7EC 0, some (.init 2911))
        ∧ nextAcc ready (.init 2911) = some (.write 0x1F7EE 0, none)) := by decide

/-- A controller access that waits for the free Account Store Port, the account gate OPEN or CLOSED. -/
def portWait (x : Access) (opened : Bool) : Block :=
  { ready with path := { idlePath with bus := .nvWait x }, nv := { Nv.start with gateOpen := opened } }

theorem witness_NvPortTakesInOrder :
    ({ ready with supplyLow := true }.nvFree = false)
      ∧ (let b := portWait (.read 0x20000) false
         b.nvFree = true ∧ b.path.bus = .nvWait (.read 0x20000))
      ∧ (let b := portWait (.write 0x21FFF 1) false
         b.nvFree = true ∧ b.path.bus = .nvWait (.write 0x21FFF 1) ∧ b.nv.gateOpen = false)
      ∧ (∀ k : Fin 8, let a := 0x20000 + 0x10 * (127 : Fin 128).val + 2 * k.val + 1
         let b := portWait (.write a 9) true
         b.nvFree = true ∧ ¬ (b.nv.gateOpen = false ∨ b.nv.fill = .filling) ∧ b.path.bus = .nvWait (.write a 9))
      ∧ (let b := portWait (.write 0x20800 9) true
         b.nvFree = true ∧ ¬ (b.nv.gateOpen = false ∨ b.nv.fill = .filling) ∧ 0x20800 ≤ 0x20800
           ∧ b.path.bus = .nvWait (.write 0x20800 9))
      ∧ (let b : Block := { ready with nv := { Nv.start with planClaim := some 127 } }
         b.nvFree = true ∧ (∀ x, b.path.bus ≠ .nvWait x) ∧ b.nv.planClaim = some 127)
      ∧ (let b : Block := { ready with nv := { Nv.start with fillClaim := true, fill := .filling, progress := 127 } }
         b.nvFree = true ∧ (∀ x, b.path.bus ≠ .nvWait x) ∧ b.nv.planClaim = none ∧ b.nv.fillClaim = true ∧ b.nv.progress < 128)
      ∧ (let b := withQueue 8 ready
         b.nvFree = true ∧ (∀ x, b.path.bus ≠ .nvWait x) ∧ b.nv.planClaim = none ∧ b.nv.fillClaim = false
           ∧ b.charges.queue = posting :: List.replicate 7 posting ∧ b.charges.applying = false ∧ b.nv.fill ≠ .filling)
      ∧ ((∀ x, ready.path.bus ≠ .nvWait x) ∧ ready.nv.planClaim = none ∧ ready.nv.fillClaim = false
        ∧ ready.postingOffered = none)
      ∧ { ready with nv := { Nv.start with fill := .filling } }.nv.fill = .filling := by
  refine ⟨by decide, by decide, by decide, ?_, by decide, ⟨by decide, ?_, rfl⟩, ⟨by decide, ?_, rfl, rfl, by decide⟩,
    ⟨by decide, ?_, rfl, rfl, rfl, rfl, by decide⟩, ⟨?_, rfl, rfl, rfl⟩, rfl⟩
  · intro k; exact ⟨rfl, (by rintro (h | h) <;> cases h), rfl⟩
  all_goals intro x h; cases h

/-- The controller can reach the window of `running`: all the hypothesis of the statements on commands that ask no more. -/
theorem witness_RefusedWriteReported :
    (on running).part.reached ∧ (7 ≠ (7 : Nat) ∨ (3 : Word).toNat % 4 = 0 ∨ (3 : Word).toNat % 4 = 3)
      ∧ (3 ≠ (3 : Nat) ∨ (0xFFFC : Word).toNat % 4 = 0) ∧ (21 : Fin 64).val ≤ 21 ∧ 33 ≤ (33 : Fin 64).val
      ∧ ((0x03FF : Word).toNat / 256 = 0 ∨ 4 ≤ (0x0400 : Word).toNat / 256) ∧ (2 : Word).toNat % 4 ≠ 1 := by decide

theorem witness_HeldAccessesWait :
    (let b : Block := { ready with resetPin := true }
     b.path.bus = .idle ∧ b.inReset = true)
      ∧ (State.reset.part.path.bus = .idle ∧ State.reset.part.stand.st = .starting
        ∧ inWindow State.reset.part.path.straps (evenAddr 0x19FFF) = true)
      ∧ (let b := busWaits running
         b.path.bus ≠ .idle ∧ ¬ (b.inReset = true ∨ (b.stand.st = .starting ∧ inWindow b.path.straps (evenAddr 0x1E034) = true))
           ∧ (decodeAddr b.path.straps 0x1E034 = .stand 26 ∧ (26 : Fin 64).val ≠ 6)
           ∧ decodeAddr b.path.straps 0x22000 = .noMemory ∧ decodeAddr b.path.straps 0x20000 = .nv 0
           ∧ decodeAddr b.path.straps 0x1E00C = .stand 6 ∧ decodeAddr b.path.straps 0x1EA0A = .header 0 5)
      ∧ (let b : Block := { busWaits ready with resetPin := true }
         b.path.bus ≠ .idle ∧ b.inReset = true)
      ∧ (running.path.bus = .idle
        ∧ ¬ (running.inReset = true ∨ (running.stand.st = .starting ∧ inWindow running.path.straps (evenAddr 0x21FFF) = true)))
      ∧ (running.awake ∧ (busWaits running).awake)
      ∧ ((1 : Word).toNat % 4 = 1 ∧ (0xFFFE : Word).toNat % 4 = 2 ∧ (0xFFFF : Word).toNat % 4 = 3)
      ∧ ((0x0148 : Word).toNat / 256 = 1 ∧ (0x0200 : Word).toNat / 256 = 2 ∧ (0x03FF : Word).toNat / 256 = 3) := by
  and_intros <;> decide +kernel

theorem witness_LiveRegisterWrites : (on running).part.awake ∧ (on (busWaits running)).part.awake := by decide

theorem witness_AttentionIsHighestSetLevel :
    ({ ready with resetPin := true }.resetPin = true ∧ { ready with supplyLow := true }.supplyLow = true
      ∧ State.reset.part.stand.st = .starting)
      ∧ (let b : Block := { ready with stand := { ready.stand with flags := 0x81, levels := 0x4003 } }
         b.resetPin = false ∧ b.supplyLow = false ∧ b.stand.st ≠ .starting ∧ b.flag .stand = true ∧ b.attention = 3) := by decide

theorem witness_UnpostedTotalIsStaged : (on ready).part.reached := by decide

theorem witness_LastFaultedAccountCleared : (on ready).part.reached := by decide

theorem witness_RefusedAddressIsStaged :
    (on ready).part.reached ∧ (on ready).part.stand.softReset = false ∧ (on ready).part.path.bus = .idle := by decide

/-- The film in a motion, `n` increments of its limit counted. -/
def timed (st : FilmState) (limit n : Nat) : Film := { filmIn st with limit := limit, elapsed := n }

/-- The link awaiting the reply for frame 1 of page 2, `n` increments counted of the 100 of its limit. -/
def awaiting (n : Nat) : Block :=
  { withPage2 .returned .sent with link := { Link.start with st := .awaiting, message := some (2, 0), elapsed := n } }

/-- A block in which the advance limit and the reply limit run out at the same increment. -/
def bothOut : Block := (awaiting 99).setFilm (timed .leader 50 49)

theorem witness_ClockIncrementCounts :
    (on { ready with resetPin := true }).part.inReset = true ∧ (on running).part.inReset = false
      ∧ (let f := timed .rewinding 3000 2999
         (f.st = .leader ∨ f.st = .advancing ∨ f.st = .rewinding) ∧ f.limit ≤ f.elapsed + 1)
      ∧ ¬ (timed .rewinding 3000 2998).limit ≤ (timed .rewinding 3000 2998).elapsed + 1
      ∧ ((awaiting 99).link.st = .awaiting ∧ (awaiting 99).link.replyLimit ≤ (awaiting 99).link.elapsed + 1)
      ∧ ¬ (awaiting 98).link.replyLimit ≤ (awaiting 98).link.elapsed + 1
      ∧ (bothOut.inReset = false ∧ bothOut.film.limit ≤ bothOut.film.elapsed + 1
        ∧ bothOut.link.replyLimit ≤ bothOut.link.elapsed + 1) := by decide

/-- `running` with a lock. -/
def withLock (l : Option Lock) : Block := running.setOrders { Orders.start with lock := l }

theorem witness_ControlWordReadLocks :
    ((withLock (some ⟨23, none⟩)).reached ∧ (withLock (some ⟨23, none⟩)).locked 23 = true)
      ∧ ((on running).part.reached ∧ running.locked 23 = false ∧ running.orders.lock = none)
      ∧ ((withLock (some ⟨0, none⟩)).locked 23 = false ∧ ∀ l, (withLock (some ⟨0, none⟩)).orders.lock = some l → l.held = none)
      ∧ (let h : HeldWriteBack := ⟨Vector.replicate 9 (some 0), true⟩
         (withLock (some ⟨0, some h⟩)).reached ∧ (0 : Fin 24) ≠ 23
           ∧ (withLock (some ⟨0, some h⟩)).orders.lock = some { slot := 0, held := some h }) := by
  refine ⟨by decide, by decide, ⟨by decide, fun l h => ?_⟩, by decide, by decide, rfl⟩
  obtain rfl := Option.some.inj h
  rfl

theorem witness_ControlWordWriteTaken :
    (let b : Block := { running with orders := { Orders.start with lock := some ⟨0, none⟩ } }
     b.reached ∧ b.locked 0 = true ∧ b.locked 23 = false)
      ∧ (1 : Word).toNat % 8 ≤ 1 ∧ 2 ≤ (2 : Word).toNat % 8
      ∧ (let g := (serving .waiting).gate
         g.list.findIdx? (fun e => decide (e.slot = 5)) = some 0 ∧ g.list[0]? = some (entry .active)) := by decide

theorem witness_OrderWordWritesStored :
    (on running).part.reached ∧ MemoryCanonical (on running) ∧ (Instr.orderSetupWrite 23 1 0xFFFF).wf = true
      ∧ (Instr.orderSetupWrite 0 6 0).wf = true ∧ (Instr.orderResultWordWrite 0 7 0).wf = true
      ∧ (Instr.orderResultWordWrite 23 8 0).wf = true ∧ (on running).part.path.port = none
      ∧ (let b := inService .planningRead [] running
         b.reached ∧ MemoryCanonical (on b) ∧ b.path.port.isSome = true)
      ∧ ((0 : Fin 16).val = 0 ∧ 9 ≤ (9 : Fin 16).val)
      ∧ (let b := withLock (some ⟨5, some ⟨Vector.replicate 9 (some 0), true⟩⟩)
         b.reached ∧ b.path.port = none ∧ b.leads 5 7 = true ∧ b.leads 5 8 = true ∧ b.leads 5 6 = false ∧ b.leads 4 7 = false) := by
  simp only [MemoryCanonical]; decide

/-- A base read of slot 5 for a skip. -/
def skipRead : BaseRead := ⟨5, .rollShort, none, true⟩

theorem witness_WriteBackFormed :
    running.locked 5 = false
      ∧ (∃ l, (withLock (some ⟨5, none⟩)).orders.lock = some l ∧ l.slot = 5 ∧ l.held = none)
      ∧ (∃ l old, (withLock (some ⟨5, some ⟨Vector.replicate 9 none, true⟩⟩)).orders.lock = some l ∧ l.slot = 5
        ∧ l.held = some old)
      ∧ (∃ l h, (withLock (some ⟨5, some ⟨Vector.replicate 9 (some 0xFFFF), true⟩⟩)).orders.lock = some l ∧ l.slot = 5
        ∧ l.held = some h ∧ h.words[8] = some 0xFFFF)
      ∧ (∀ w, ¬ ∃ l h, (inService (.skipBase skipRead) [] running).orders.lock = some l ∧ l.slot = 5 ∧ l.held = some h
        ∧ h.words[8] = some w)
      ∧ (∃ v r, (inService (.skipBase skipRead) [] running).path.port = some v ∧ v.owner = .skipBase r ∧ r.slot = 5)
      ∧ ¬ ((∃ v r, running.path.port = some v ∧ v.owner = .skipBase r ∧ r.slot = 5)
        ∨ ∃ w ∈ running.path.partList, ∃ r, w.owner = .skipBase r ∧ r.slot = 5) := by
  refine ⟨by decide, ⟨_, rfl, rfl, rfl⟩, ⟨_, _, rfl, rfl, rfl⟩, ⟨_, _, rfl, rfl, rfl, by decide⟩, ?_, ⟨_, _, rfl, rfl, rfl⟩, ?_⟩
  · rintro w ⟨l, h, hl, -⟩; cases hl
  · rintro (⟨v, r, h, -⟩ | ⟨w, h, -⟩) <;> cases h

theorem witness_WriteBackAccessesComplete :
    (let s := on (inService (.writeBack 23 true) [] running)
     ∃ v, s.part.path.port = some v ∧ v.last = true ∧ v.owner = .writeBack 23 true)
      ∧ (let s := on (inService (.skipBase skipRead) [0xFFFF] running)
         ∃ v, s.part.path.port = some v ∧ v.last = true ∧ v.owner = .skipBase skipRead ∧ v.got = [0xFFFF]
           ∧ ∀ d ∈ s.part.orders.deferred, d.isOf skipRead.slot = false)
      ∧ (let s := on (inService (.skipBase skipRead) [0] (running.setOrders { Orders.start with
            deferred := [.load 4, .base 5 .badSetup (some 0)] }))
         ∃ v, s.part.path.port = some v ∧ v.last = true ∧ v.owner = .skipBase skipRead ∧ v.got = [0]
           ∧ ∃ d ∈ s.part.orders.deferred, d.isOf skipRead.slot = true) :=
  ⟨⟨_, rfl, rfl, rfl⟩, ⟨_, rfl, rfl, rfl, rfl, by decide⟩, _, rfl, rfl, rfl, rfl, by decide⟩

theorem witness_CycleEnds :
    { running with stand := { running.stand with softReset := true } }.stand.softReset = true
      ∧ (let b : Block := { running with stand := { running.stand with st := .holding } }
         b.stand.softReset = false ∧ b.stand.st = .holding)
      ∧ running.stand.softReset = false ∧ running.stand.st ≠ .holding := by decide

theorem witness_SoftResetTaken :
    (let s := on { running with stand := { running.stand with softReset := true } }
     s.part.reached ∧ s.part.stand.softReset = true)
      ∧ ((on running).part.reached ∧ (on running).part.stand.softReset = false ∧ (on running).part.gate.inCycle = false)
      ∧ (let b := gateIn .metering
         let w : Block := { b with gate := { b.gate with withdrawPending := true } }
         w.reached ∧ w.stand.softReset = false ∧ w.gate.inCycle = true ∧ w.gate.withdrawPending = true)
      ∧ (let b := gateIn .planning
         b.reached ∧ b.stand.softReset = false ∧ b.gate.inCycle = true ∧ b.gate.withdrawPending = false) := by decide

theorem witness_ClockReadReleasesLock :
    ((on running).part.reached ∧ running.orders.lock = none)
      ∧ (let b : Block := { running with orders := { running.orders with lock := some ⟨0, none⟩ } }
         b.reached ∧ b.orders.lock = some { slot := 0, held := none })
      ∧ (let h : HeldWriteBack := ⟨Vector.replicate 9 (some 1), true⟩
         let b : Block := { running with orders := { running.orders with lock := some ⟨23, some h⟩ } }
         b.reached ∧ b.orders.lock = some { slot := 23, held := some h }) :=
  ⟨⟨by decide, rfl⟩, ⟨by decide, rfl⟩, by decide, rfl⟩

theorem witness_ArriveStartsCycle :
    (let b : Block := { gateIn .done with film := filmIn .ended }
     b.reached ∧ (b.gate.st = .empty ∨ b.gate.st = .done) ∧ b.stand.st = .running
       ∧ (b.film.st = .ready ∨ b.film.st = .ended))
      ∧ (running.reached ∧ (running.gate.st = .empty ∨ running.gate.st = .done) ∧ running.stand.st = .running
        ∧ ¬ (running.film.st = .ready ∨ running.film.st = .ended))
      ∧ (ready.reached ∧ ¬ ((ready.gate.st = .empty ∨ ready.gate.st = .done) ∧ ready.stand.st = .running))
      ∧ ((gateIn .serving).reached
        ∧ ¬ (((gateIn .serving).gate.st = .empty ∨ (gateIn .serving).gate.st = .done)
          ∧ (gateIn .serving).stand.st = .running)) := by decide

/-- A gate with the withdraw-pending mark set, and one with the reset-pending mark. -/
def withdrawn (b : Block) : Block := b.setGate { b.gate with withdrawPending := true }

def resetMarked (b : Block) : Block := b.setGate { b.gate with resetPending := true }

theorem witness_WithdrawTaken :
    ((gateIn .empty).reached ∧ (gateIn .empty).gate.st = .empty) ∧ ((gateIn .done).reached ∧ (gateIn .done).gate.st = .done)
      ∧ (let b := resetMarked (gateIn .metering)
         b.reached ∧ b.gate.inCycle = true ∧ (b.gate.withdrawPending = true ∨ b.gate.resetPending = true))
      ∧ (let b := gateIn .metering
         b.reached ∧ b.gate.inCycle = true ∧ ¬ (b.gate.withdrawPending = true ∨ b.gate.resetPending = true)
           ∧ b.gate.st = .metering)
      ∧ (let b := serving .exposing
         b.gate.inCycle = true ∧ ¬ (b.gate.withdrawPending = true ∨ b.gate.resetPending = true)
           ∧ ∃ a, b.gate.active = some a ∧ a.phase ≠ .waiting)
      ∧ (let b := serving .waiting
         b.reached ∧ b.gate.inCycle = true ∧ ¬ (b.gate.withdrawPending = true ∨ b.gate.resetPending = true)
           ∧ b.gate.st ≠ .metering ∧ b.gate.st ≠ .planning ∧ ¬ ∃ a, b.gate.active = some a ∧ a.phase ≠ .waiting) := by
  refine ⟨by decide, by decide, by decide, by decide, ⟨by decide, by decide, _, rfl, by decide⟩, by decide, by decide, by decide,
    by decide, by decide, ?_⟩
  rintro ⟨a, h, h2⟩
  obtain rfl := Option.some.inj h
  exact h2 rfl

theorem witness_CancelledEndingHaltsActiveOrder :
    Reason.aborted ≠ .none
      ∧ (∃ a e r, (serving .waiting).gate.active = some a ∧ (serving .waiting).gate.list[a.index]? = some e
        ∧ e.deactivated = false ∧ (serving .waiting).gate.result = some r)
      ∧ (let g := { (serving .waiting).gate with list := [{ entry .active with deactivated := true }] }
         ∃ a e, g.active = some a ∧ g.list[a.index]? = some e ∧ e.deactivated = true)
      ∧ (gateIn .planning).gate.active = none :=
  ⟨by decide, ⟨_, _, _, rfl, rfl, rfl, rfl⟩, ⟨_, _, rfl, rfl, rfl⟩, rfl⟩

theorem witness_EntryEndsServed :
    (entry .active).deactivated = false ∧ { entry .active with deactivated := true }.deactivated = true
      ∧ (serving .advancing).gate.result = some (Vector.replicate 9 0)
      ∧ ((0x0348 : Word).toNat % 256 ≠ 0 ∧ (0x0300 : Word).toNat % 256 = 0) := by decide

/-- A conversion in progress. -/
def metering : Block := (gateIn .metering).setExpo { Exposure.start with lamp := .meter, converting := true }

theorem witness_ConversionJudged :
    running.expo.converting = false
      ∧ (metering.expo.converting = true ∧ (withdrawn metering).gate.withdrawPending = true)
      ∧ ((resetMarked metering).gate.withdrawPending = false ∧ (resetMarked metering).gate.resetPending = true)
      ∧ ¬ (metering.gate.withdrawPending = true ∨ metering.gate.resetPending = true)
      ∧ (39 : BitVec 10).toNat < metering.stand.latched[2].toNat
      ∧ (metering.stand.latched[2].toNat ≤ (1001 : BitVec 10).toNat ∧ metering.stand.latched[3].toNat < (1001 : BitVec 10).toNat)
      ∧ (metering.stand.latched[2].toNat ≤ (40 : BitVec 10).toNat ∧ (40 : BitVec 10).toNat ≤ metering.stand.latched[3].toNat)
      ∧ (1000 : BitVec 10).toNat ≤ metering.stand.latched[3].toNat := by decide

/-- One slot OPEN, its mask 0: it matches every slide. -/
def matching : Block :=
  (metering).setOrders { Orders.start with shadows := Orders.start.shadows.set 23 { Shadow.start with code := .opened } }
    |>.setGate { metering.gate with ref := 1 }

theorem witness_ScanListsMatchesInOrder :
    orderedMatches running = [] ∧ orderedMatches matching = [23] ∧ (matching.shadow 23).code = .opened := by decide

/-- A setup at the upper ends of its ranges, and schemes to go with it. -/
def fullSetup : Shadow := { Shadow.start with code := .opened, account := 127, copies := 9, scheme := 7, template := 0xFFFF }

def setupBlock (sh : Shadow) (f : Film) (e : Entry) : Block :=
  { gateIn .planning with
    orders := { Orders.start with shadows := Orders.start.shadows.set 5 sh }
    film := f, gate := { (gateIn .planning).gate with list := [e] } }

theorem witness_VisitDecidesEntry :
    (∃ e, (setupBlock fullSetup (filmIn .ready) { entry .candidate with deactivated := true }).gate.list[0]? = some e
        ∧ e.deactivated = true)
      ∧ (let b := setupBlock { fullSetup with copies := 10 } (filmIn .ready) (entry .candidate)
         b.gate.list[0]? = some (entry .candidate) ∧ (entry .candidate).deactivated = false
           ∧ setupValid (b.shadow 5) (schemeOf b (b.shadow 5)) = false)
      ∧ (let b := setupBlock fullSetup (filmIn .ended) (entry .candidate)
         setupValid (b.shadow 5) (schemeOf b (b.shadow 5)) = true ∧ (entry .candidate).st ≠ .planned ∧ b.film.st ≠ .ready)
      ∧ (let b := setupBlock fullSetup (filmIn .ready) (entry .candidate)
         setupValid (b.shadow 5) (schemeOf b (b.shadow 5)) = true ∧ b.film.st = .ready
           ∧ b.film.used + ((b.gate.list.filter (fun e => decide (e.st = .planned))).map (·.planned)).sum
               + (b.shadow 5).copies.toNat * (schemeOf b (b.shadow 5))[0].toNat ≤ b.film.length)
      ∧ (gateIn .planning).gate.list.length ≤ 0
      ∧ (let b (f : Film) := setupBlock fullSetup f (entry .candidate)
         (b (filmIn .ready)).gate.list[0]? = some (entry .candidate)
           ∧ (visit 0 (entry .candidate) (b (filmIn .ready))).2 = true
           ∧ (visit 0 (entry .candidate) (b (filmIn .ended))).2 = false) := by
  refine ⟨⟨_, rfl, rfl⟩, by decide, by decide, by decide, by decide, by decide⟩

/-- The entry's account read in service, an entry of the list waiting for it. -/
def planRead (got : List Word) (e : Entry) : State :=
  on (inService .planningRead got { gateIn .planning with
    gate := { (gateIn .planning).gate with list := [e], visiting := some 0 } })

/-- A sound record of balance 540 and floor 0; the same STOPPED; one unsound. -/
def soundRecord : List Word := [0x0100, 540, 0, 0, 0, 0, 0, checkWord [0x0100, 540, 0, 0, 0, 0, 0]]

def stoppedRecord : List Word := [0x0200, 540, 0, 0, 0, 0, 0, checkWord [0x0200, 540, 0, 0, 0, 0, 0]]

theorem witness_PlanningReadJudges :
    (∀ got e, ∃ v, (planRead got e).part.path.port = some v ∧ v.last = true ∧ v.owner = .planningRead ∧ v.got = got
        ∧ (planRead got e).part.gate.visiting = some 0 ∧ (planRead got e).part.gate.list[0]? = some e
        ∧ (planRead got e).part.gate.withdrawPending = false ∧ (planRead got e).part.gate.resetPending = false)
      ∧ (withdrawn (planRead [] (entry .candidate)).part).gate.withdrawPending = true
      ∧ { entry .candidate with deactivated := true }.deactivated = true ∧ (entry .candidate).deactivated = false
      ∧ recordSound [] = false ∧ (recordSound stoppedRecord = true ∧ recordState stoppedRecord = 2)
      ∧ (recordSound soundRecord = true ∧ recordState soundRecord ≠ 2 ∧ recordBalance soundRecord - (541 : Nat) < recordFloor soundRecord
        ∧ recordFloor soundRecord ≤ recordBalance soundRecord - (540 : Nat))
      ∧ (planRead [] (entry .candidate)).part.charges.queue = []
      ∧ (let b := withQueue 8 (planRead [] (entry .candidate)).part
         b.charges.queue ≠ [] ∧ b.charges.applying = false ∧ b.nv.fill ≠ .filling ∧ ∀ x, b.path.bus ≠ .nvWait x) := by
  refine ⟨fun got e => ⟨_, rfl, rfl, rfl, rfl, rfl, rfl, rfl, rfl⟩, by decide, by decide, by decide, by decide, by decide, by decide,
    rfl, by decide, rfl, by decide, fun x h => by cases h⟩

theorem witness_RecordsFormed : recordSound soundRecord = true ∧ ¬ recordSound (soundRecord.set 0 0x0300) = true := by decide

theorem witness_MoveOutTakesFirstPlanned :
    (∀ e ∈ (serving .waiting).gate.list, e.st ≠ .planned)
      ∧ (let l := [entry .skipped, entry .planned]
         l[1]? = some (entry .planned) ∧ (entry .planned).st = .planned ∧ ∀ j f, j < 1 → l[j]? = some f → f.st ≠ .planned) := by
  refine ⟨by decide, rfl, rfl, fun j f hj h => ?_⟩
  obtain rfl : j = 0 := by omega
  obtain rfl := Option.some.inj h
  decide

/-- The lock of slot 5 with a held write-back of these words. -/
def heldLock (ws : ResultWords) : Block := withLock (some ⟨5, some ⟨ws, true⟩⟩)

theorem witness_ResultCopyLoads :
    (∃ l h, (heldLock (Vector.replicate 9 none)).orders.lock = some l ∧ l.slot = 5 ∧ l.held = some h)
      ∧ (∀ l h, running.orders.lock = some l → l.slot = 5 → l.held ≠ some h)
      ∧ (∃ v r, (inService (.skipBase skipRead) [] running).path.port = some v ∧ v.owner = .skipBase r ∧ r.slot = 5)
      ∧ (∀ ws, ¬ ((∃ v r, (heldLock ws).path.port = some v ∧ v.owner = .skipBase r ∧ r.slot = 5)
        ∨ ∃ w ∈ (heldLock ws).path.partList, ∃ r, w.owner = .skipBase r ∧ r.slot = 5))
      ∧ (let ws : ResultWords := (Vector.replicate 9 none).set 8 (some 7)
         (heldWords (heldLock ws) 5)[(8 : Fin 9)] = some 7 ∧ ∃ i : Fin 9, (heldWords (heldLock ws) 5)[i] = none)
      ∧ (let b := heldLock (Vector.replicate 9 (some 7))
         (∀ i : Fin 9, (heldWords b 5)[i] = some (Vector.replicate 9 (7 : Word))[i])
           ∧ ¬ (b.gate.withdrawPending = true ∨ b.gate.resetPending = true)
           ∧ (withdrawn b).gate.withdrawPending = true ∧ heldWords (withdrawn b) 5 = heldWords b 5)
      ∧ (let b := inService (.resultLoad (Vector.replicate 9 none)) (List.replicate 9 1) (serving .loading)
         ∃ v, (on b).part.path.port = some v ∧ v.last = true ∧ v.owner = .resultLoad (Vector.replicate 9 none)
           ∧ v.got = List.replicate 9 1 ∧ b.gate.withdrawPending = false ∧ b.gate.resetPending = false)
      ∧ (withdrawn (serving .loading)).gate.withdrawPending = true
      ∧ ((resetMarked (serving .loading)).gate.withdrawPending = false ∧ (resetMarked (serving .loading)).gate.resetPending = true)
      ∧ (let known : ResultWords := (Vector.replicate 9 none).set 0 (some 7)
         known[(0 : Fin 9)] = some 7 ∧ known[(8 : Fin 9)] = none
           ∧ (loadedWords known [1, 2, 3, 4, 5, 6, 7, 8])[(8 : Fin 9)] = 8) := by
  refine ⟨⟨_, _, rfl, rfl, rfl⟩, (fun l h e => by cases e), ⟨_, _, rfl, rfl, rfl⟩, ?_, ⟨by decide, 0, by decide⟩,
    ⟨by decide, by decide, rfl, rfl⟩, ⟨_, rfl, rfl, rfl, rfl, rfl, rfl⟩, rfl, ⟨rfl, rfl⟩, by decide⟩
  rintro ws (⟨v, r, h, -⟩ | ⟨w, h, -⟩) <;> cases h

theorem witness_StepsRunCopyMajor :
    (∃ a e, (serving .advancing).gate.active = some a ∧ (serving .advancing).gate.list[a.index]? = some e
        ∧ e.step < a.steps ∧ e.copy < a.copies)
      ∧ (withdrawn (serving .advancing)).gate.withdrawPending = true
      ∧ ¬ ((serving .advancing).gate.withdrawPending = true ∨ (serving .advancing).gate.resetPending = true)
      ∧ ((active .advancing).steps ≤ { entry .active with step := 3 }.step
        ∧ { entry .active with step := 3, copy := 1 }.copy < (active .advancing).copies)
      ∧ (active .advancing).copies ≤ { entry .active with step := 3, copy := 2 }.copy :=
  ⟨⟨_, _, rfl, rfl, by decide, by decide⟩, rfl, by decide, by decide, by decide⟩

/-- A table read in service, the word read, the film in a state, `n` postings queued. -/
def tableReadOf (w : Word) (st : FilmState) (n : Nat) : Block :=
  withQueue n (inService .tableRead [w] ((serving .tableRead).setFilm (filmIn st)))

theorem witness_TableReadSkipsOrExposes :
    (∀ w st n, ∃ v a e, (tableReadOf w st n).path.port = some v ∧ v.last = true ∧ v.owner = .tableRead ∧ v.got = [w]
        ∧ (tableReadOf w st n).gate.active = some a ∧ (tableReadOf w st n).gate.list[a.index]? = some e
        ∧ ¬ ((tableReadOf w st n).gate.withdrawPending = true ∨ (tableReadOf w st n).gate.resetPending = true))
      ∧ (withdrawn (tableReadOf 1 .ready 0)).gate.withdrawPending = true
      ∧ ((1 : Word) ≠ 0 ∧ (tableReadOf 1 .ready 7).film.st = .ready
        ∧ (tableReadOf 1 .ready 7).charges.queue.length + (tableReadOf 1 .ready 7).charges.reserved < 8)
      ∧ ¬ ((tableReadOf 1 .ready 8).film.st = .ready
        ∧ (tableReadOf 1 .ready 8).charges.queue.length + (tableReadOf 1 .ready 8).charges.reserved < 8) := by
  refine ⟨fun w st n => ⟨_, _, _, rfl, rfl, rfl, rfl, rfl, rfl, by rintro (h | h) <;> cases h⟩, rfl, by decide, by decide⟩

theorem witness_ExposureCompletes :
    (let b := (serving .exposing).setFilm (filmIn .exposing)
     ∃ a e, b.gate.active = some a ∧ b.gate.list[a.index]? = some e ∧ a.phase = .exposing ∧ b.film.page = some 1
       ∧ b.film.used = (0 : Fin 72).val ∧ (0 : Fin 72).val + 1 ≠ b.film.length)
      ∧ (let b := (serving .exposing).setFilm { filmIn .exposing with length := 72, used := 71 }
         ∃ a e, b.gate.active = some a ∧ b.gate.list[a.index]? = some e ∧ a.phase = .exposing ∧ b.film.page = some 1
           ∧ b.film.used = (71 : Fin 72).val ∧ (71 : Fin 72).val + 1 = b.film.length) :=
  ⟨⟨_, _, rfl, rfl, rfl, rfl, rfl, by decide⟩, _, _, rfl, rfl, rfl, rfl, rfl, rfl⟩

/-- The film in a motion, `n` of its 8 pulses counted. -/
def moving (st : FilmState) (n : Nat) : Film := { filmIn st with pulses := n, elapsed := n }

theorem witness_PulseAdvancesFilm :
    (¬ ((filmIn .ready).st = .leader ∨ (filmIn .ready).st = .advancing))
      ∧ (((moving .leader 6).st = .leader) ∧ (moving .leader 6).pulses + 1 ≠ (moving .leader 6).pulsesPerFrame)
      ∧ ((moving .leader 7).st = .leader ∧ (moving .leader 7).pulses + 1 = (moving .leader 7).pulsesPerFrame
        ∧ (moving .leader 7).leaderLeft ≤ 1)
      ∧ 2 ≤ { moving .leader 7 with leaderLeft := 2 }.leaderLeft
      ∧ ((moving .advancing 7).st = .advancing ∧ (moving .advancing 7).pulses + 1 = (moving .advancing 7).pulsesPerFrame
        ∧ { moving .advancing 7 with interrupted := .frameAdvance }.interrupted ≠ .none ∧ (moving .advancing 7).interrupted = .none)
      ∧ (∃ a, (serving .advancing).gate.active = some a ∧ a.phase = .advancing)
      ∧ ¬ ∃ a, running.gate.active = some a ∧ a.phase = .advancing := by
  refine ⟨by decide, by decide, by decide, by decide, by decide, ⟨_, rfl, rfl⟩, ?_⟩
  rintro ⟨a, h, -⟩; cases h

theorem witness_AdvanceTimeoutJams :
    ({ ready with resetPin := true }.inReset = true)
      ∧ (¬ ((filmIn .ready).st = .leader ∨ (filmIn .ready).st = .advancing))
      ∧ ¬ (timed .leader 50 48).limit ≤ (timed .leader 50 48).elapsed + 1
      ∧ ((timed .leader 50 49).st = .leader ∧ (timed .leader 50 49).limit ≤ (timed .leader 50 49).elapsed + 1
        ∧ ¬ ∃ a, running.gate.active = some a ∧ a.phase = .advancing)
      ∧ ((serving .advancing).inReset = false ∧ (timed .advancing 50 49).st = .advancing
        ∧ (timed .advancing 50 49).limit ≤ (timed .advancing 50 49).elapsed + 1
        ∧ ∃ a, (serving .advancing).gate.active = some a ∧ a.phase = .advancing)
      ∧ (withdrawn (serving .advancing)).gate.withdrawPending = true
      ∧ ¬ ((serving .advancing).gate.withdrawPending = true ∨ (serving .advancing).gate.resetPending = true)
      ∧ (running.link.st ≠ .awaiting ∧ (awaiting 99).link.elapsed < (awaiting 99).link.replyLimit) := by
  refine ⟨by decide, by decide, by decide, ⟨by decide, by decide, ?_⟩, ⟨by decide, by decide, by decide, _, rfl, rfl⟩, rfl,
    by decide, by decide⟩
  rintro ⟨a, h, -⟩; cases h

theorem witness_LoadTakesPage :
    (running.reached ∧ running.film.st = .empty ∧ 12 ≤ (12 : BitVec 8).toNat ∧ (72 : BitVec 8).toNat ≤ 72
        ∧ (running.gate.st = .empty ∨ running.gate.st = .done) ∧ running.pages.pages[(0 : Fin 4)].st = .free
        ∧ ∀ q : Fin 4, q < 0 → running.pages.pages[q].st ≠ .free)
      ∧ Settings.leader (running.stand.latched.set 5 0) = 0 ∧ Settings.leader running.stand.latched ≠ 0
      ∧ (¬ 12 ≤ (11 : BitVec 8).toNat ∧ ¬ (73 : BitVec 8).toNat ≤ 72) := by decide

theorem witness_FilmRewindsAndRetries :
    (running.reached ∧ running.film.st = .empty ∧ running.film.st ≠ .jammed ∧ running.film.st ≠ .rewinding)
      ∧ (let b := (gateIn .metering).setFilm (filmIn .ended)
         b.reached ∧ (b.film.st = .ready ∨ b.film.st = .ended ∨ b.film.st = .jammed)
           ∧ (b.gate.st = .empty ∨ b.gate.st = .done ∨ b.gate.st = .metering))
      ∧ (let b := (serving .advancing).setFilm (filmIn .advancing)
         b.reached ∧ ¬ (b.film.st = .empty ∨ ((b.film.st = .ready ∨ b.film.st = .ended ∨ b.film.st = .jammed)
           ∧ (b.gate.st = .empty ∨ b.gate.st = .done ∨ b.gate.st = .metering))))
      ∧ (let f (m : Motion) := { filmIn .jammed with interrupted := m }
         (f .leaderAdvance).st = .jammed ∧ (f .leaderAdvance).interrupted = .leaderAdvance
           ∧ (f .frameAdvance).interrupted = .frameAdvance ∧ (f .rewind).interrupted = .rewind)
      ∧ (let b := running.setFilm (timed .rewinding 3000 2999)
         b.inReset = false ∧ b.film.st = .rewinding ∧ b.film.limit ≤ b.film.elapsed + 1)
      ∧ (¬ (timed .rewinding 3000 2998).limit ≤ (timed .rewinding 3000 2998).elapsed + 1)
      ∧ ({ ready with supplyLow := true }.inReset = true)
      ∧ (running.film.page = none ∧ (filmIn .rewinding).page = some 1) := by decide

/-- A posting's record read in service; and its write cycle running. -/
def postRead (got : List Word) : Block := withQueue 2 (inService .postingRead got running)

def cycleOf (c : Option Claim) (progress : Nat) : Block :=
  { running with
    nvCycle := some [(0x207F0, 0x0100)]
    nv := { Nv.start with phase := if c.isSome then .writing else .idle, serving := c, fill := .filling, progress := progress } }

theorem witness_PostingApplied :
    (∀ got, ∃ v, (on (postRead got)).part.path.port = some v ∧ v.last = true ∧ v.owner = .postingRead ∧ v.got = got
        ∧ (postRead got).charges.queue = posting :: [posting])
      ∧ recordSound soundRecord = true ∧ recordSound [] = false
      ∧ ((cycleOf (some .posting) 0).nv.serving = some .posting ∧ (cycleOf (some .posting) 0).nvCycle = some [(0x207F0, 0x0100)]
        ∧ ∀ v, (on (cycleOf (some .posting) 0)).part.path.port = some v → v.acc.isNv = false)
      ∧ (∀ b q f rest, (on b).pending ≠ .spoil q f :: rest)
      ∧ (∀ b q f, { on b with pending := [.spoil q f] }.pending = .spoil q f :: [])
      ∧ (¬ ((∃ a, running.gate.active = some a ∧ a.phase = .waiting) ∧ running.film.st = .ready ∧ running.pages.walkQueue ≠ []))
      ∧ (let b : Block := { serving .waiting with film := filmIn .ready, pages := { Pages.start with walkQueue := [0] } }
         (∃ a, b.gate.active = some a ∧ a.phase = .waiting) ∧ b.film.st = .ready ∧ b.pages.walkQueue ≠ [])
      ∧ (let b (n : Nat) := withQueue n { serving .waiting with film := filmIn .ready }
         (b 7).charges.queue.length + (b 7).charges.reserved < 8 ∧ 8 ≤ (b 8).charges.queue.length + (b 8).charges.reserved)
      ∧ (∀ a, (serving .exposing).gate.active = some a → a.phase ≠ .waiting) := by
  refine ⟨fun got => ⟨_, rfl, rfl, rfl, rfl, rfl⟩, by decide, by decide, ⟨rfl, rfl, fun v h => by cases h⟩,
    (fun b q f rest h => by cases h), fun _ _ _ => rfl, ?_, ⟨⟨_, rfl, rfl⟩, rfl, by decide⟩, by decide, ?_⟩
  · rintro ⟨-, h, -⟩; cases h
  · intro a h; obtain rfl := Option.some.inj h; decide

theorem witness_FillRuns :
    (ready.awake ∧ ready.nv.fill ≠ .filling) ∧ (busWaits ready).awake
      ∧ (let b := cycleOf (some .fill) 127
         b.awake ∧ b.nv.fill = .filling ∧ b.nv.serving = some .fill ∧ b.nvCycle = some [(0x207F0, 0x0100)]
           ∧ (∀ v, (on b).part.path.port = some v → v.acc.isNv = false) ∧ b.nv.progress + 1 = 128)
      ∧ (let b := cycleOf (some .posting) 126
         b.awake ∧ b.nv.fill = .filling ∧ b.nv.serving ≠ some .fill ∧ b.nv.progress + 1 ≠ 128 ∧ b.nv.stopping = false)
      ∧ { Nv.start with stopping := true }.stopping = true
      ∧ (let b : Block := { ready with nv := { Nv.start with gateOpen := true } }
         b.awake ∧ b.nv.gateOpen = true ∧ b.stand.st = .held ∧ b.charges.queue = [] ∧ b.nv.fill ≠ .filling)
      ∧ ¬ (ready.nv.gateOpen = true)
      ∧ (∃ v, (on (inService .fillRead [] ready)).part.path.port = some v ∧ v.last = true ∧ v.owner = .fillRead ∧ v.got = []
        ∧ { Nv.start with progress := 127 }.progress < 128) := by
  refine ⟨by decide, by decide, ⟨by decide, rfl, rfl, rfl, (fun v h => by cases h), rfl⟩, by decide, rfl, by decide, by decide,
    _, rfl, rfl, rfl, rfl, by decide⟩

theorem witness_StoreAccessTaken :
    (ready.path.bus = .idle ∧ ready.inReset = false ∧ ready.nvFree = true)
      ∧ (let b := cycleOf (some .posting) 0
         b.path.bus = .idle ∧ b.inReset = false ∧ b.nvFree = false)
      ∧ ((ready.nv.gateOpen = false) ∧ ¬ ({ Nv.start with gateOpen := true }.gateOpen = false
        ∨ { Nv.start with gateOpen := true }.fill = .filling))
      ∧ ((7 : Fin 8) = 7 ∧ (6 : Fin 8) ≠ 7) ∧ 0x400 ≤ (0x400 : Fin 4096).val ∧ 0x400 ≤ (4095 : Fin 4096).val := by decide

theorem witness_StoreAccessCompletes :
    (∃ v, (on (inService .ctlNvRead [0xFFFF] ready)).part.path.port = some v ∧ v.last = true ∧ v.owner = .ctlNvRead
        ∧ v.got = [0xFFFF])
      ∧ (let a : Fin 128 := 127
         let k : Fin 8 := 6
         let b := inService .ctlAccountRead [0, 1, 2, 3, 4, 5, 6]
           { ready with path := { idlePath with bus := .nvTaken (.write (0x20000 + 0x10 * a.val + 2 * k.val) 9) } }
         (∃ v, (on b).part.path.port = some v ∧ v.last = true ∧ v.owner = .ctlAccountRead ∧ v.got = [0, 1, 2, 3, 4, 5, 6])
           ∧ b.path.bus = .nvTaken (.write (0x20000 + 0x10 * a.val + 2 * k.val) 9) ∧ k ≠ 7)
      ∧ (∀ c, (cycleOf c 0).nvCycle = some [(0x207F0, 0x0100)] ∧ (cycleOf c 0).nv.serving = c
        ∧ ∀ v, (on (cycleOf c 0)).part.path.port = some v → v.acc.isNv = false) := by
  refine ⟨⟨_, rfl, rfl, rfl, rfl⟩, ⟨⟨_, rfl, rfl, rfl, rfl⟩, rfl, by decide⟩, fun c => ⟨rfl, rfl, fun v h => by cases h⟩⟩

theorem witness_PagesReturnedAndDiscarded :
    (let b := withPage2 .exposed .due
     b.reached ∧ b.pages.pages[(2 : Fin 4)].st = .exposed
       ∧ (∃ f : Fin 72, b.pages.pages[(2 : Fin 4)].frames[f].label = .due ∨ b.pages.pages[(2 : Fin 4)].frames[f].label = .unsure)
       ∧ ¬ ((b.link.st = .sending ∨ b.link.st = .awaiting) ∧ ∃ f, b.link.message = some (2, f)))
      ∧ (let b := withPage2 .exposed .printed
         b.reached ∧ b.pages.pages[(2 : Fin 4)].st = .exposed
           ∧ ∀ f : Fin 72, ¬ (b.pages.pages[(2 : Fin 4)].frames[f].label = .due
             ∨ b.pages.pages[(2 : Fin 4)].frames[f].label = .unsure))
      ∧ ((withPage2 .returned .due).pages.pages[(2 : Fin 4)].st = .returned)
      ∧ ((withPage2 .current .due).pages.pages[(2 : Fin 4)].st ≠ .exposed
        ∧ (withPage2 .current .due).pages.pages[(2 : Fin 4)].st ≠ .returned)
      ∧ (let l := { Link.start with st := .awaiting, message := some (2, 0) }
         (l.st = .sending ∨ l.st = .awaiting) ∧ ∃ f, l.message = some ((2 : Fin 4), f)) := by
  refine ⟨⟨by decide, by decide, ⟨0, by decide⟩, ?_⟩, by decide, by decide, by decide, by decide, 0, rfl⟩
  rintro ⟨h, -⟩; revert h; decide

theorem witness_PrintQueueServed :
    running.pages.printQueue = [] ∧ (withPage2 .returned .due).pages.printQueue.Nodup
      ∧ ((withPage2 .returned .due).pages.printQueue = [2] ∧ (withPage2 .returned .due).pages.pages[(2 : Fin 4)].frames[(0 : Fin 72)].label = .due)
      ∧ (let b := withPage2 .returned .printed
         b.pages.printQueue = [2] ∧ (2 : Fin 4) ∉ ([] : List (Fin 4)) ∧ ([] : List (Fin 4)).length ≤ 3
           ∧ ∀ f : Fin 72, b.pages.pages[(2 : Fin 4)].frames[f].label ≠ .due ∧ b.pages.pages[(2 : Fin 4)].frames[f].label ≠ .sent
             ∧ b.pages.pages[(2 : Fin 4)].frames[f].label ≠ .unsure)
      ∧ running.link.st ≠ .idle
      ∧ (let b : Block := { withPage2 .returned .due with link := { Link.start with st := .idle } }
         b.link.st = .idle ∧ b.pages.printQueue = [2] ∧ b.pages.pages[(2 : Fin 4)].frames[(0 : Fin 72)].label = .due
           ∧ ∀ g : Fin 72, g < 0 → b.pages.pages[(2 : Fin 4)].frames[g].label ≠ .due) := by decide

/-- Page 2 the head of the walk queue, its one frame with a label state, `n` postings queued, the walk at frame `at`. -/
def walking (l : LabelState) (n pos : Nat) : Block :=
  withQueue n { withPage2 .discarding l with
    pages := { (withPage2 .discarding l).pages with walkQueue := [2], walkPos := pos } }

theorem witness_DiscardWalkSpoils :
    (let b := walking .due 0 1
     b.pages.walkQueue.length ≤ 4 ∧ (∀ p : Fin 4, b.pages.pages[p].used ≤ 72) ∧ (b.pages.walkQueue ≠ [] → 1 ≤ b.pages.walkPos))
      ∧ ((∀ p : Fin 4, running.pages.pages[p].used ≤ 72) ∧ (running.pages.walkQueue ≠ [] → 1 ≤ running.pages.walkPos))
      ∧ running.pages.walkQueue = []
      ∧ ((walking .due 0 2).pages.walkQueue = [2] ∧ (walking .due 0 2).pages.pages[(2 : Fin 4)].used < (walking .due 0 2).pages.walkPos)
      ∧ (let b := walking .printed 0 1
         b.pages.walkQueue = [2] ∧ b.pages.walkPos = (0 : Fin 72).val + 1 ∧ (0 : Fin 72).val + 1 ≤ b.pages.pages[(2 : Fin 4)].used
           ∧ ¬ (b.pages.pages[(2 : Fin 4)].frames[(0 : Fin 72)].label = .due
             ∨ b.pages.pages[(2 : Fin 4)].frames[(0 : Fin 72)].label = .unsure))
      ∧ (let b := walking .unsure 7 1
         b.pages.pages[(2 : Fin 4)].frames[(0 : Fin 72)].label = .unsure ∧ b.charges.queue.length + b.charges.reserved < 8)
      ∧ (let b := walking .due 8 1
         b.pages.pages[(2 : Fin 4)].frames[(0 : Fin 72)].label = .due
           ∧ ¬ b.charges.queue.length + b.charges.reserved < 8) := by
  decide

theorem witness_LabelCommandsTaken :
    (let b := withQueue 7 (withPage2 .current .unsure)
     let pg := b.pages.pages[(2 : Fin 4)]
     let fr := pg.frames[(0 : Fin 72)]
     b.reached ∧ (pg.st = .current ∨ pg.st = .exposed ∨ pg.st = .returned) ∧ (fr.label = .due ∨ fr.label = .unsure)
       ∧ (0 : Fin 72).val + 1 ≤ pg.used ∧ b.charges.queue.length + b.charges.reserved < 8)
      ∧ (let b := withQueue 8 (withPage2 .current .due)
         b.reached ∧ ¬ b.charges.queue.length + b.charges.reserved < 8)
      ∧ (let b := withPage2 .returned .unsure
         b.reached ∧ b.pages.pages[(2 : Fin 4)].st = .returned ∧ b.pages.pages[(2 : Fin 4)].frames[(0 : Fin 72)].label = .unsure)
      ∧ ¬ ((withPage2 .returned .due).pages.pages[(2 : Fin 4)].frames[(0 : Fin 72)].label = .unsure)
      ∧ (running.gate.active = none ∧ running.pages.walkQueue = [])
      ∧ (let b := walking .due 8 1
         b.gate.active = none ∧ b.pages.walkQueue = 2 :: [] ∧ b.pages.walkPos = (0 : Fin 72).val + 1
           ∧ (0 : Fin 72).val + 1 ≤ b.pages.pages[(2 : Fin 4)].used ∧ b.pages.pages[(2 : Fin 4)].frames[(0 : Fin 72)].label = .due
           ∧ 8 ≤ b.charges.queue.length + b.charges.reserved)
      ∧ ((withQueue 8 (serving .waiting)).pages.walkQueue = []
        ∧ 8 ≤ (withQueue 8 (serving .waiting)).charges.queue.length + (withQueue 8 (serving .waiting)).charges.reserved) := by
  decide

theorem witness_MessageTransmitted :
    (∀ got, ∃ v, (on (inService (.compose 2 71) got running)).part.path.port = some v ∧ v.last = true
        ∧ v.owner = .compose 2 71 ∧ v.got = got)
      ∧ ({ Pages.start with composeAside := 1 }.composeAside ≠ 0 ∧ Pages.start.composeAside = 0 ∧ Link.start.tx = none)
      ∧ (let l : Link := { Link.start with st := .sending, bytes := List.replicate 54 0, tx := some ⟨0, .none, 3⟩ }
         let at' (n : Nat) : Link := { l with next := n }
         ((at' 54).st = .sending ∧ (at' 54).tx.isSome = true ∧ (at' 54).next = 54)
           ∧ ((at' 53).next ≠ 54 ∧ (at' 53).bytes[53]? = some 0)
           ∧ ((at' 1).tx.isSome = true ∧ (at' 1).next ≠ 54 ∧ { at' 1 with bytes := [] }.bytes[1]? = none))
      ∧ 30 ≤ (List.replicate 30 (0x2020 : Word)).length
      ∧ (0x20 ≤ (0x20 : Byte).toNat ∧ (0x7E : Byte).toNat ≤ 0x7E)
      ∧ (7 ≤ (7 : Byte).toNat ∧ (0x1F : Byte).toNat ≤ 0x1F ∧ 0x7F ≤ (0x7F : Byte).toNat) := by
  refine ⟨fun got => ⟨_, rfl, rfl, rfl, rfl⟩, by decide, by decide, by decide, by decide, by decide⟩

/-- The bits of 0x07 on the line, without parity, with even and with odd parity (R137). -/
theorem test_transmit_bits :
    let ones : List Bool := [false, true, true, true, false, false, false, false, false]
    let t (p : Parity) : TxByte := { data := 0x07, parity := p, rate := 3 }
    (t .none).bits = ones ++ [true] ∧ (t .even).bits = ones ++ [true, true] ∧ (t .odd).bits = ones ++ [false, true] := by
  decide

theorem witness_ReplySettlesFrame :
    ((awaiting 0).link.st = .awaiting ∧ (awaiting 0).link.armed = true ∧ (awaiting 0).link.message = some (2, 0))
      ∧ (0x06 : Byte) ≠ 0x15 ∧ (0x15 : Byte) ≠ 0x10 ∧ (0x12 : Byte) ≠ 0x11
      ∧ (awaiting 0).pages.pages[(2 : Fin 4)].frames[(0 : Fin 72)].attempts < 3
      ∧ 3 ≤ { Frame.start with attempts := 3 }.attempts
      ∧ ((awaiting 99).inReset = false ∧ (awaiting 99).link.replyLimit ≤ (awaiting 99).link.elapsed + 1
        ∧ ¬ ((awaiting 99).film.st = .leader ∨ (awaiting 99).film.st = .advancing ∨ (awaiting 99).film.st = .rewinding))
      ∧ (¬ (awaiting 98).link.replyLimit ≤ (awaiting 98).link.elapsed + 1 ∧ { awaiting 99 with resetPin := true }.inReset = true)
      ∧ (bothOut.inReset = false ∧ bothOut.link.st = .awaiting ∧ bothOut.link.replyLimit ≤ bothOut.link.elapsed + 1
        ∧ bothOut.film.st = .leader ∧ bothOut.film.limit ≤ bothOut.film.elapsed + 1)
      ∧ ((awaiting 100).link.replyLimit ≤ (awaiting 100).link.elapsed ∧ (awaiting 100).link.message = some (2, 0))
      ∧ (let l := { (awaiting 0).link with tx := some ⟨0, .none, 3⟩, bytes := [2] }
         l.tx.isSome = true ∧ { l with tx := none }.tx = none ∧ l.bytes[0]? = some 2)
      ∧ ((awaiting 0).link.settingsPending = false ∧ { Link.start with settingsPending := true }.settingsPending = true)
      ∧ (Settings.printerOn (settingsDefaults.set 16 1) = true ∧ Settings.printerOn settingsDefaults = false) := by decide

theorem witness_StrayByteCounted :
    ({ Link.start with st := .idle }.st = .idle ∧ { Link.start with st := .sending }.st = .sending
      ∧ { Link.start with st := .stalled }.st = .stalled ∧ Link.start.armed = true) ∧ Link.start.st = .off
      ∧ (let l := { (awaiting 0).link with armed := false }
         l.st = .awaiting ∧ l.armed = false)
      ∧ (let start : Block := { running with link := { Link.start with st := .idle } }
         (∃ t, exec (.byteArrival 0 false false) (on start) = .next t ∧ t.part.link.armed = false)
           ∧ ∃ t, exec (.byteArrival 0 false true) (on start) = .next t ∧ t.part.link.armed = true) := by
  refine ⟨by decide, rfl, by decide, ⟨_, rfl, by decide⟩, _, rfl, by decide⟩

theorem witness_LinkResumesAndResets :
    (running.reached ∧ running.link.st ≠ .stalled)
      ∧ (let b : Block := { running with link := { Link.start with st := .stalled } }
         b.reached ∧ b.link.st = .stalled ∧ b.pages.printQueue = [])
      ∧ (let b : Block := { withPage2 .returned .due with link := { Link.start with st := .stalled } }
         b.reached ∧ b.link.st = .stalled ∧ b.pages.printQueue = [2]
           ∧ b.pages.pages[(2 : Fin 4)].frames[(0 : Fin 72)].label = .due
           ∧ b.pages.pages[(2 : Fin 4)].frames[(71 : Fin 72)].label ≠ .due)
      ∧ running.link.st = .off
      ∧ ((awaiting 0).link.st = .awaiting ∧ (awaiting 0).link.message = some (2, 0) ∧ (awaiting 0).pages.composing = false
        ∧ { (awaiting 0).pages with composing := true }.composing = true)
      ∧ (running.link.settingsPending = false ∧ { Link.start with settingsPending := true }.settingsPending = true)
      ∧ (Settings.printerOn (settingsDefaults.set 16 1) = true ∧ Settings.printerOn settingsDefaults = false) := by decide

/-- The stand HELD with the default settings in memory's copy. -/
def heldReady : Block := ready.setStand { ready.stand with copy := settingsDefaults }

theorem witness_RunAndHoldTaken :
    (heldReady.reached ∧ heldReady.stand.st = .held ∧ heldReady.nv.fill ≠ .filling
        ∧ ∀ i, Settings.fieldValid heldReady.stand.copy i = true)
      ∧ ((awaiting 0).link.st = .sending ∨ (awaiting 0).link.st = .awaiting)
      ∧ ¬ (heldReady.link.st = .sending ∨ heldReady.link.st = .awaiting)
      ∧ (ready.reached ∧ ready.stand.st = .held ∧ Settings.fieldValid ready.stand.copy 3 = false
        ∧ ∀ j : Fin 32, j < 3 → Settings.fieldValid ready.stand.copy j = true)
      ∧ (let b : Block := { ready with nv := { Nv.start with fill := .filling } }
         b.reached ∧ b.stand.st = .held ∧ b.nv.fill = .filling)
      ∧ (let b : Block := { running with stand := { running.stand with st := .holding, softReset := true } }
         b.reached ∧ b.stand.st = .holding ∧ b.stand.softReset = true)
      ∧ (let b : Block := { running with stand := { running.stand with st := .holding } }
         b.reached ∧ b.stand.st = .holding ∧ b.stand.softReset = false)
      ∧ (running.reached ∧ running.stand.st = .running ∧ (running.gate.st = .empty ∨ running.gate.st = .done))
      ∧ ((gateIn .planning).stand.st = .running ∧ ¬ ((gateIn .planning).gate.st = .empty ∨ (gateIn .planning).gate.st = .done))
      ∧ (∀ i, Settings.fieldValid settingsDefaults i = true)
      ∧ (settingsDefaults[17] = 0 ∧ (settingsDefaults.set 17 1)[17] = 1 ∧ (settingsDefaults.set 17 2)[17] = 2
        ∧ settingsDefaults[18].toNat ≤ 3) := by decide

theorem witness_MemoryWritesStored :
    ((on running).part.reached ∧ Memory.wf (on running).part.mem = true ∧ running.path.port = none)
      ∧ (let b := inService .planningRead [] running
         b.reached ∧ Memory.wf b.mem = true ∧ b.path.port.isSome = true)
      ∧ (ready.reached ∧ ready.stand.st = .held ∧ running.stand.st ≠ .held)
      ∧ (1 ≤ (1 : Fin 32).val ∧ (24 : Fin 32).val ≤ 24 ∧ 25 ≤ (25 : Fin 32).val ∧ running.pages.useCount[(15 : Fin 16)] = 0)
      ∧ { Pages.start with useCount := Pages.start.useCount.set 15 1 }.useCount[(15 : Fin 16)] ≠ 0
      ∧ 9 ≤ (9 : Fin 16).val
      ∧ decodeAddr running.path.straps 0 = .plain 0 ∧ decodeAddr running.path.straps 0x1FFFF = .plain 0x1FFFE := by decide

theorem witness_MemoryAccessCompletes :
    (running.reached ∧ running.path.port = none ∧ decodeAddr running.path.straps 0x1E0C0 = .plain 0x1E0C0
        ∧ decodeAddr running.path.straps 0x1E0BE = .settings 31 ∧ decodeAddr running.path.straps 0x1E17E = .exposure 63
        ∧ decodeAddr running.path.straps 0x1E1FE = .scheme 7 7 ∧ decodeAddr running.path.straps 0x1F7EE = .frame 3 71 5
        ∧ (decodeAddr running.path.straps 0x1E00C = .stand 6 ∧ (6 : Fin 64).val = 6)
        ∧ (decodeAddr running.path.straps 0x1E4FE = .order 23 15 ∧ (15 : Fin 16).val ≠ 0)
        ∧ (decodeAddr running.path.straps 0x1E602 = .template 0 1 ∧ (1 : Fin 32).val ≠ 0)
        ∧ (decodeAddr running.path.straps 0x1F48A = .header 3 5 ∧ (5 : Fin 8).val ≤ 5))
      ∧ ((inService .planningRead [] running).reached ∧ (inService .planningRead [] running).path.port.isSome = true)
      ∧ (let b (x : Bus) := inService .controller [7] { running with path := { idlePath with bus := x } }
         (∃ v, (on (b (.memory (.read 0)))).part.path.port = some v ∧ v.last = true ∧ v.owner = .controller
             ∧ (b (.memory (.read 0))).path.bus = .memory (.read 0) ∧ v.got = [7])
           ∧ ∃ v, (on (b (.memory (.write 0 1)))).part.path.port = some v ∧ v.last = true ∧ v.owner = .controller
             ∧ (b (.memory (.write 0 1))).path.bus = .memory (.write 0 1))
      ∧ (∃ v, (on State.reset.part).part.path.port = some v ∧ v.last = false)
      ∧ (∃ v, (on (inService .pageWrites [] running)).part.path.port = some v ∧ v.owner = .pageWrites)
      ∧ (let b (x : Bus) := inService .windowInit [] { State.reset.part with path := { idlePath with bus := x } }
         (∃ v, (on (b .idle)).part.path.port = some v ∧ v.last = true ∧ v.owner = .windowInit)
           ∧ (b .idle).inReset = false ∧ (b .idle).path.bus = .idle
           ∧ (b (.held (.read 0x1E000))).path.bus = .held (.read 0x1E000))
      ∧ (running.path.bus = .idle ∧ running.inReset = false ∧ 0x22000 ≤ 0x22000)
      ∧ (on (busWaits running)).part.awake
      ∧ ((gateIn .done).gate.list[(7 : Fin 8).val]? = none
        ∧ (serving .waiting).gate.list[(0 : Fin 8).val]? = some (entry .active)) := by
  refine ⟨by and_intros <;> decide +kernel, by decide, ⟨⟨_, rfl, rfl, rfl, rfl, rfl⟩, _, rfl, rfl, rfl, rfl⟩, ⟨_, rfl, rfl⟩, ⟨_, rfl, rfl⟩,
    ⟨⟨_, rfl, rfl, rfl⟩, rfl, rfl, rfl⟩, ⟨rfl, rfl, le_rfl⟩, by decide, by decide⟩

theorem witness_ResetsTakeStartValues :
    (∀ pin low, { running with resetPin := pin, supplyLow := low }.resetPin = pin
        ∧ { running with resetPin := pin, supplyLow := low }.supplyLow = low)
      ∧ (busWaits running).path.bus = .nvWait (.write 0x20000 1) ∧ (cycleOf (some .fill) 0).nv.fill = .filling
      ∧ (cycleOf (some .fill) 0).nvCycle.getD [] = [(0x207F0, 0x0100)] :=
  ⟨fun _ _ => ⟨rfl, rfl⟩, rfl, rfl, rfl⟩

end Sys2Proof.Tests
end

section
/-! The Order Table: what the lock, the write-backs, the base reads and the control word do, and the statements of chapter 1. -/

namespace Sys2Proof.Machine

/-! ## Commands in a reached state -/

theorem exec_orderControlRead {s : State} (h : s.part.reached) (n : Fin 24) :
    exec (.orderControlRead n) s = .next ⟨s.pending, arbitrate (orderControlRead n s.part)⟩ := by
  have hexec : exec (.orderControlRead n) s = execOrderControlRead n s := rfl
  simp only [hexec, execOrderControlRead, event, readAt_reached h]

theorem exec_orderControlWrite {s : State} (h : s.part.reached) (n : Fin 24) (v : Word) :
    exec (.orderControlWrite n v) s = .next ⟨s.pending, settle (orderControlWrite n v s.part)⟩ := by
  have hexec : exec (.orderControlWrite n v) s = execOrderControlWrite n v s := rfl
  simp only [hexec, execOrderControlWrite, event, writeAt_reached h]

theorem exec_standClockRead {s : State} (h : s.part.reached) :
    exec .standClockRead s = .next ⟨s.pending, settle (clockRead s.part)⟩ := by
  have hexec : exec .standClockRead s = execStandClockRead s := rfl
  simp only [hexec, execStandClockRead, event, readAt_reached h]

/-- The two commands that write an order's words 1 to 8 store the word they name. -/
theorem exec_orderWordWrite {s : State} (h : s.part.reached) {n : Fin 24} {k : Fin 16} {v : Word} {c : Instr}
    (hc : c = .orderSetupWrite n k v ∨ c = .orderResultWordWrite n k v) (hwf : c.wf = true) :
    exec c s = .next ⟨s.pending, settle (memoryAccess (.write (addrOf s.part.path.straps (.order n k)) v) s.part)⟩ := by
  have hk : k.val ≠ 0 := by
    rcases hc with rfl | rfl <;> simp only [Instr.wf, decide_eq_true_eq] at hwf <;> omega
  have hexec : exec c s = .next ⟨s.pending, settle (writeAt (.order n k) v (orderWrite n k v) s.part)⟩ := by
    rcases hc with rfl | rfl <;> rfl
  rw [hexec, writeAt_reached h, orderWrite, if_neg hk]

/-- The completion of a set's last access is its owner's, on the block with the port free. -/
theorem completing_last {s : State} {v : Service} {sel : Service → Bool} (hport : s.part.path.port = some v)
    (hlast : v.last = true) (hsel : sel v = true) :
    completing sel s
      = .next ⟨s.pending, settle (ownerDone (spoilNext s.pending) v.owner v.got (freePort s.part))⟩ := by
  simp only [completing, event, completePort, hport, hsel, hlast, if_true]

/-! ## The lock -/

theorem locked_eq_true_iff {b : Block} {n : Fin 24} :
    b.locked n = true ↔ ∃ l, b.orders.lock = some l ∧ l.slot = n := by
  simp [Block.locked, Option.any_eq_true]

theorem locked_eq_false_iff {b : Block} {n : Fin 24} :
    b.locked n = false ↔ ∀ l, b.orders.lock = some l → l.slot ≠ n := by
  simp [← Bool.not_eq_true, locked_eq_true_iff]

theorem releaseLock_unlocked {b : Block} (h : b.orders.lock = none) : releaseLock b = b := by
  simp only [releaseLock, h]

theorem releaseLock_empty {b : Block} {n : Fin 24} (h : b.orders.lock = some ⟨n, none⟩) :
    releaseLock b = setLock none b := by
  simp only [releaseLock, h]

theorem releaseLock_held {b : Block} {n : Fin 24} {w : HeldWriteBack} (h : b.orders.lock = some ⟨n, some w⟩) :
    releaseLock b = issueWriteBack n w.words w.notice (setLock none b) := by
  simp only [releaseLock, h]

/-- With no held write-back, releasing the lock only clears it. -/
theorem releaseLock_of_held_none {b : Block} (h : ∀ l, b.orders.lock = some l → l.held = none) :
    releaseLock b = setLock none b := by
  rcases hl : b.orders.lock with _ | ⟨n, held⟩
  · rw [releaseLock_unlocked hl, setLock, ← hl]; rfl
  · obtain rfl : held = none := h _ hl
    exact releaseLock_empty hl

theorem setLock_setLock (l m : Option Lock) (b : Block) : setLock l (setLock m b) = setLock l b := rfl

@[simp] theorem setLock_locked (l : Option Lock) (b : Block) (n : Fin 24) :
    (setLock l b).locked n = l.any (fun x => x.slot = n) := rfl

@[simp] theorem setLock_shadow (l : Option Lock) (b : Block) (n : Fin 24) : (setLock l b).shadow n = b.shadow n := rfl

/-! ## Write-backs -/

/-- The writes of a write-back, with the result words numbered from 7. -/
theorem coveredWrites_eq (b : Block) (n : Fin 24) (ws : ResultWords) :
    coveredWrites b n ws = (List.finRange 9).filterMap (fun i => ws[i].map (fun v =>
      .write (addrOf b.path.straps (.order n (Fin.ofNat 16 (7 + i.val)))) v)) := by
  simp only [coveredWrites, resultAddr, Nat.add_comm 7]

theorem mark_iff (b : Block) (n : Fin 24) : b.mark n = true ↔ (b.shadow n).writeBacks ≠ 0 := by
  simp [Block.mark, Block.shadow]

/-- A write-back is issued: one more is outstanding for its slot, and its writes stand last in the part list. -/
theorem issueWriteBack_eq (n : Fin 24) (ws : ResultWords) (notice : Bool) (b : Block) :
    issueWriteBack n ws notice b = { b with
      orders := { b.orders with
        shadows := b.orders.shadows.set n { b.shadow n with writeBacks := (b.shadow n).writeBacks + 1 } },
      path := { b.path with partList := b.path.partList ++
        [{ owner := .writeBack n notice, got := [],
           work := .words ((List.finRange 9).filterMap (fun i => ws[i].map (fun v =>
             .write (addrOf b.path.straps (.order n (Fin.ofNat 16 (7 + i.val)))) v))) }] } } := by
  rw [issueWriteBack, putWriteBack, coveredWrites_eq]
  rfl

theorem issueWriteBack_shadow (n m : Fin 24) (ws : ResultWords) (notice : Bool) (b : Block) :
    (issueWriteBack n ws notice b).shadow m =
      if n = m then { b.shadow m with writeBacks := (b.shadow m).writeBacks + 1 } else b.shadow m :=
  shadow_withShadow n m (fun s => { s with writeBacks := s.writeBacks + 1 }) b

theorem formWriteBack_unlocked {b : Block} {n : Fin 24} (h : b.locked n = false) (ws : ResultWords) (notice : Bool) :
    formWriteBack n ws notice b = issueWriteBack n ws notice b := by
  unfold formWriteBack
  split
  case h_1 l hl => rw [if_neg (locked_eq_false_iff.mp h l hl)]
  case h_2 => rfl

theorem formWriteBack_locked {b : Block} {l : Lock} (h : b.orders.lock = some l) (ws : ResultWords) (notice : Bool) :
    formWriteBack l.slot ws notice b = setLock (some { l with held := some (mergeHeld l.held ws notice) }) b := by
  simp only [formWriteBack, h, if_true, setLock]

/-! ## A read of the control word -/

theorem releaseLock_lock (b : Block) : (releaseLock b).orders.lock = none := by
  rcases hl : b.orders.lock with _ | ⟨n, _ | w⟩
  · rw [releaseLock_unlocked hl, hl]
  · rw [releaseLock_empty hl]; rfl
  · rw [releaseLock_held hl, issueWriteBack_eq]; rfl

/-- The release of the lock changes the shadow of the locked slot only. -/
theorem releaseLock_shadow {b : Block} {n : Fin 24} (h : b.locked n = false) : (releaseLock b).shadow n = b.shadow n := by
  rcases hl : b.orders.lock with _ | ⟨m, _ | w⟩
  · rw [releaseLock_unlocked hl]
  · rw [releaseLock_empty hl, setLock_shadow]
  · have hmn : m ≠ n := locked_eq_false_iff.mp h _ hl
    rw [releaseLock_held hl, issueWriteBack_shadow, if_neg hmn, setLock_shadow]

/-- The control word shows the slot's shadow, its mark and the lock indication. -/
theorem controlWord_eq {b c : Block} {n : Fin 24} {indication : Bool} (hshadow : c.shadow n = b.shadow n)
    (hlocked : c.locked n = indication) :
    controlWord c n = BitVec.ofNat 16 ((b.shadow n).code.code + (b.shadow n).priority.toNat * 16
      + (if b.mark n then 256 else 0) + (if indication then 512 else 0)) := by
  have hmark : c.mark n = b.mark n := by rw [Bool.eq_iff_iff, mark_iff, mark_iff, hshadow]
  have hbit (x : Bool) (k : Nat) : flagBit x * k = if x then k else 0 := by cases x <;> simp [flagBit]
  simp only [controlWord, word, hshadow, hmark, hlocked, hbit]

/-- A read of the locked slot's word 0 answers, and changes nothing. -/
theorem orderControlRead_locked {b : Block} {n : Fin 24} (h : b.locked n = true) :
    orderControlRead n b = answer (controlWord b n) b := by
  simp only [orderControlRead, h, if_true]

/-- The lock that a read of an unlocked slot's word 0 leaves. -/
def lockAfterRead (b : Block) (n : Fin 24) : Option Lock :=
  if mayLock b n then some { slot := n, held := none } else none

theorem lockAfterRead_locked (b : Block) (n : Fin 24) :
    (lockAfterRead b n).any (fun l => l.slot = n) = mayLock b n := by
  unfold lockAfterRead
  split <;> simp_all

/-- A read of an unlocked slot's word 0 releases the lock, takes the slot's own if it may, and then answers. -/
theorem orderControlRead_unlocked {b : Block} {n : Fin 24} (h : b.locked n = false) :
    orderControlRead n b = answer (controlWord (setLock (lockAfterRead b n) (releaseLock b)) n)
      (setLock (lockAfterRead b n) (releaseLock b)) := by
  have hset : setLock none (releaseLock b) = releaseLock b := by rw [← releaseLock_lock b]; rfl
  have hmay : mayLock (releaseLock b) n = mayLock b n := by
    have hmark : (releaseLock b).mark n = b.mark n := by
      rw [Bool.eq_iff_iff, mark_iff, mark_iff, releaseLock_shadow h]
    simp only [mayLock, releaseLock_shadow h, hmark]
  simp only [orderControlRead, h, Bool.false_eq_true, if_false, hmay, lockAfterRead]
  split <;> simp only [hset]

/-- Settles O19: the slot is locked, or the lock is released first, with or without a held write-back to issue. -/
theorem controlWordReadLocks : Obligations.ControlWordReadLocks := by
  intro n s hs p takes control lock answers
  have hunlocked (h : p.locked n = false) : takes = mayLock p n ∧ lock = lockAfterRead p n := by
    have htakes : takes = mayLock p n := by
      simp only [takes, h, Bool.false_or, mayLock]
    exact ⟨htakes, by simp only [lock, lockAfterRead, htakes]⟩
  have hanswers (h : p.locked n = false) :
      answers (setLock lock (releaseLock p)) := by
    obtain ⟨htakes, hlock⟩ := hunlocked h
    have hword : controlWord (setLock lock (releaseLock p)) n = control := by
      refine controlWord_eq (by rw [setLock_shadow, releaseLock_shadow h]) ?_
      rw [setLock_locked, hlock, lockAfterRead_locked, htakes]
    simp only [answers]
    rw [exec_orderControlRead hs, orderControlRead_unlocked h, ← hlock, hword]
    rfl
  refine ⟨fun h => ?_, fun h hheld => ?_, fun m w hm hl => ?_⟩
  · have hword : controlWord p n = control := controlWord_eq rfl (by simp only [takes, h, Bool.true_or])
    simp only [answers]
    rw [exec_orderControlRead hs, orderControlRead_locked h, hword]
    rfl
  · have := hanswers h
    rwa [releaseLock_of_held_none hheld, setLock_setLock] at this
  · have h : p.locked n = false := locked_eq_false_iff.mpr (by rw [hl]; rintro l ⟨⟩; exact hm)
    have := hanswers h
    rwa [releaseLock_held hl, issueWriteBack_eq] at this

/-- Settles O26: one case for each form of the lock. -/
theorem clockReadReleasesLock : Obligations.ClockReadReleasesLock := by
  intro s hs b
  have hexec : exec .standClockRead s = .next ⟨s.pending, settle (releaseLock b)⟩ := exec_standClockRead hs
  have hlock : b.orders.lock = s.part.orders.lock := rfl
  rw [← hlock]
  refine ⟨fun h => ?_, fun n h => ?_, fun n w h => ?_⟩
  · rw [hexec, releaseLock_unlocked h]
  · rw [hexec, releaseLock_empty h]; rfl
  · rw [hexec, releaseLock_held h]; rfl

/-! ## A write of the control word -/

theorem discardLock_locked {b : Block} {n : Fin 24} (h : b.locked n = true) :
    discardLock n b =
      withShadow n (fun s => { s with lastServed := b.ram (.order n 7), served := b.ram (.order n 8) }) (setLock none b) := by
  rw [discardLock, if_pos h]

theorem discardLock_unlocked {b : Block} {n : Fin 24} (h : b.locked n = false) : discardLock n b = b := by
  rw [discardLock, if_neg (by simp [h])]

/-- A discarded lock leaves the count of write-backs of every slot. -/
theorem discardLock_writeBacks (n m : Fin 24) (b : Block) :
    ((discardLock n b).shadow m).writeBacks = (b.shadow m).writeBacks := by
  cases h : b.locked n
  · rw [discardLock_unlocked h]
  · rw [discardLock_locked h, shadow_withShadow]
    split <;> rfl

/-- A discarded lock takes words 7 and 8 of its own slot back, and of no other. -/
theorem discardLock_shadow_of_ne {n m : Fin 24} (hm : n ≠ m) (b : Block) : (discardLock n b).shadow m = b.shadow m := by
  cases h : b.locked n
  · rw [discardLock_unlocked h]
  · rw [discardLock_locked h, shadow_withShadow, if_neg hm, setLock_shadow]

/-- A refused write is reported by the stand's flags and the path's refused address alone. -/
theorem refuseAt_congr {b c : Block} (hstand : c.stand = b.stand) (hpath : c.path = b.path) (t : Target) :
    (refuseAt t c).stand = (refuseAt t b).stand ∧ (refuseAt t c).path = (refuseAt t b).path := by
  have hflag : c.flag .refused = b.flag .refused := by simp only [Block.flag, hstand]
  cases hb : b.flag .refused <;> simp [refuseAt, refuse, raise, hflag, hb, hstand, hpath]

theorem orderControlTake_orders (n : Fin 24) (v : Word) (b : Block) :
    (orderControlTake n v b).orders = (withShadow n (takeControl v) (discardLock n b)).orders := by
  unfold orderControlTake
  split <;> simp

theorem orderControlTake_accepted {n : Fin 24} {v : Word} (b : Block) (h : v.toNat % 8 ≤ 1) :
    (orderControlTake n v b).stand = b.stand ∧ (orderControlTake n v b).path = b.path := by
  have hbits : bits v 0 3 ≤ 1 := by simpa [bits] using h
  simp [orderControlTake, hbits]

theorem orderControlTake_refused {n : Fin 24} {v : Word} (b : Block) (h : 2 ≤ v.toNat % 8) :
    (orderControlTake n v b).stand = (refuseAt (.order n 0) b).stand
      ∧ (orderControlTake n v b).path = (refuseAt (.order n 0) b).path := by
  have hbits : ¬ bits v 0 3 ≤ 1 := by simpa [bits] using Nat.lt_of_succ_le h
  rw [orderControlTake, if_neg hbits]
  exact refuseAt_congr (by simp) (by simp) _

/-- A slot's shadow after a write of a slot's word 0. -/
theorem orderControlWrite_shadow (n m : Fin 24) (v : Word) (b : Block) :
    (orderControlWrite n v b).shadow m =
      if n = m then takeControl v ((discardLock n b).shadow m) else (discardLock n b).shadow m := by
  rw [← shadow_withShadow n m (takeControl v) (discardLock n b)]
  simp only [Block.shadow, orderControlWrite, deactivate_frame, orderControlTake_orders]

theorem orderControlWrite_lock (n : Fin 24) (v : Word) (b : Block) :
    (orderControlWrite n v b).orders.lock = (discardLock n b).orders.lock := by
  simp only [orderControlWrite, deactivate_frame, orderControlTake_orders]
  rfl

theorem takeControl_code (v : Word) (s : Shadow) :
    (takeControl v s).code = if v.toNat % 8 = 1 then .opened else .idle := by
  simp [takeControl, bits]

theorem takeControl_priority (v : Word) (s : Shadow) :
    (takeControl v s).priority = BitVec.ofNat 4 (v.toNat / 16 % 16) := by
  simp [takeControl, bits]

/-! ## The deactivation of a slot -/

theorem withEntry_list (i : Nat) (f : Entry → Entry) (b : Block) :
    (withEntry i f b).gate.list[i]? = b.gate.list[i]?.map f := by
  simp [withEntry, setList]

theorem withEntry_outcome (i : Nat) (f : Entry → Entry) (b : Block) :
    (withEntry i f b).gate.outcome = b.gate.outcome := rfl

theorem dropEntry_list (i : Nat) (b : Block) :
    (dropEntry i b).gate.list[i]? = b.gate.list[i]?.map (fun e => { e with st := .dropped, hold := 0 }) :=
  withEntry_list i _ b

theorem dropEntry_dropped (i : Nat) (b : Block) :
    (dropEntry i b).gate.outcome.dropped = min 255 (b.gate.outcome.dropped + 1) := rfl

/-- The treatment of its entry leaves the gate's state and the slots' marks. -/
theorem deactivateEntry_marks (i : Nat) (e : Entry) (b : Block) :
    (deactivateEntry i e b).gate.deactivated = b.gate.deactivated ∧ (deactivateEntry i e b).gate.st = b.gate.st := by
  unfold deactivateEntry
  split <;> exact ⟨rfl, rfl⟩

theorem deactivate_marks (n : Fin 24) (b : Block) :
    (deactivate n b).gate.deactivated = b.gate.deactivated.set n true ∧ (deactivate n b).gate.st = b.gate.st := by
  unfold deactivate
  dsimp only
  split
  · exact ⟨rfl, rfl⟩
  · split
    · exact ⟨rfl, rfl⟩
    · exact deactivateEntry_marks _ _ _

theorem deactivate_of_entry {n : Fin 24} {b : Block} {i : Nat} {e : Entry} (hi : entryOf b n = some i)
    (he : b.gate.list[i]? = some e) :
    deactivate n b = deactivateEntry i e (b.setGate { b.gate with deactivated := b.gate.deactivated.set n true }) := by
  have hi' : entryOf (b.setGate { b.gate with deactivated := b.gate.deactivated.set n true }) n = some i := hi
  simp only [deactivate, hi', setGate_gate, he]

/-- Settles O20: the Order Table takes the word, then the slot is deactivated. -/
theorem controlWordWriteTaken : Obligations.ControlWordWriteTaken := by
  intro n v s hs
  have hgate : (orderControlTake n v s.part).gate = s.part.gate := by simp
  refine ⟨orderControlWrite n v s.part, exec_orderControlWrite hs n v, ?_, ?_, fun hlocked => ?_, fun hlocked => ?_, ?_,
    fun m hm => ?_, fun hv => ?_, fun hv => ?_, ?_, fun i e hi he => ?_, ?_, by simp⟩
  · rw [orderControlWrite_shadow, if_pos rfl, takeControl_code]
  · rw [orderControlWrite_shadow, if_pos rfl, takeControl_priority]
  · rw [orderControlWrite_lock, orderControlWrite_shadow, if_pos rfl, discardLock_locked hlocked, shadow_withShadow,
      if_pos rfl]
    exact ⟨rfl, rfl, rfl⟩
  · rw [orderControlWrite_lock, orderControlWrite_shadow, if_pos rfl, discardLock_unlocked hlocked]
    exact ⟨rfl, rfl, rfl⟩
  · rw [orderControlWrite_shadow, if_pos rfl]
    exact discardLock_writeBacks n n s.part
  · rw [orderControlWrite_shadow, if_neg hm.symm, discardLock_shadow_of_ne hm.symm]
  · simpa [orderControlWrite] using orderControlTake_accepted (n := n) s.part hv
  · simpa [orderControlWrite] using orderControlTake_refused (n := n) s.part hv
  · rw [orderControlWrite, (deactivate_marks _ _).1, hgate]
  · have hentry : entryOf (orderControlTake n v s.part) n = some i := by rw [entryOf, hgate]; exact hi
    rw [orderControlWrite, deactivate_of_entry hentry (by rw [hgate]; exact he), hgate]
    cases hst : e.st <;>
      simp [deactivateEntry, hst, withEntry_list, withEntry_outcome, dropEntry_list, dropEntry_dropped, he]
  · rw [orderControlWrite, (deactivate_marks _ _).2, hgate]

/-! ## Write-backs as they are formed -/

theorem mergeWords_getElem (old new : ResultWords) (i : Fin 9) :
    (mergeWords old new)[i] = if new[i].isSome then new[i] else old[i] := by
  have hor : (mergeWords old new)[i] = new[i].or old[i] := by simp [mergeWords]
  rw [hor]
  cases new[i] <;> rfl

/-- The held words are those of the lock when it is the slot's. -/
theorem heldWords_of_lock {b : Block} {l : Lock} {w : HeldWriteBack} (hl : b.orders.lock = some l) (hw : l.held = some w) :
    heldWords b l.slot = w.words := by
  simp [heldWords, heldOf, hl, hw]

theorem heldWords_none {b : Block} {n : Fin 24} (h : ∀ l w, b.orders.lock = some l → l.slot = n → l.held ≠ some w) :
    heldWords b n = Vector.replicate 9 none := by
  have hnone : heldOf b n = none := by
    unfold heldOf
    split
    case h_1 l hl =>
      split
      case isTrue hslot => exact Option.eq_none_iff_forall_ne_some.mpr fun w => h l w hl hslot
      case isFalse => rfl
    case h_2 => rfl
  simp only [heldWords, hnone]

/-- A held word of a slot is one of the lock's held write-back. -/
theorem heldWords_eq_some {b : Block} {n : Fin 24} {i : Nat} {hi : i < 9} {v : Word} :
    (heldWords b n)[i] = some v ↔
      ∃ l w, b.orders.lock = some l ∧ l.slot = n ∧ l.held = some w ∧ w.words[i] = some v := by
  constructor
  · intro hv
    by_cases hlock : ∃ l w, b.orders.lock = some l ∧ l.slot = n ∧ l.held = some w
    · obtain ⟨l, w, hl, rfl, hw⟩ := hlock
      exact ⟨l, w, hl, rfl, hw, by rwa [heldWords_of_lock hl hw] at hv⟩
    · have hnone := heldWords_none (b := b) (n := n) (fun l w hl hs hw => hlock ⟨l, w, hl, hs, hw⟩)
      simp [hnone] at hv
  · rintro ⟨l, w, hl, rfl, hw, hv⟩
    rw [heldWords_of_lock hl hw, hv]

theorem isBaseOf_iff {n : Fin 24} {o : Owner} : o.isBaseOf n = true ↔ ∃ r, o = .skipBase r ∧ r.slot = n := by
  cases o <;> simp [Owner.isBaseOf]

/-- A base read of the slot is in service or listed. -/
theorem baseOutstanding_iff {b : Block} {n : Fin 24} : baseOutstanding b n = true ↔
    (∃ v r, b.path.port = some v ∧ v.owner = .skipBase r ∧ r.slot = n)
      ∨ ∃ w ∈ b.path.partList, ∃ r, w.owner = .skipBase r ∧ r.slot = n := by
  simp [baseOutstanding, Option.any_eq_true, isBaseOf_iff]

theorem issueBase_eq (n : Fin 24) (reason : Reason) (stamp : Option Word) (b : Block) :
    issueBase n reason stamp b = { b with
      orders := (if b.locked n then b.orders else { b.orders with
        shadows := b.orders.shadows.set n { b.shadow n with writeBacks := (b.shadow n).writeBacks + 1 } }),
      path := { b.path with partList := b.path.partList ++
        [{ owner := .skipBase { slot := n, reason := reason, stamp := stamp, counted := !b.locked n },
           work := .words [.read (addrOf b.path.straps (.order n 15))], got := [] }] } } := by
  unfold issueBase
  split <;> rfl

theorem formPass_held {b : Block} {n : Fin 24} {base : Word} (h : (heldWords b n)[8] = some base) (reason : Reason)
    (stamp : Option Word) :
    formPass n reason stamp b = formWriteBack n (passWords reason stamp base) stamp.isSome b := by
  simp only [formPass, h]

theorem formPass_not_held {b : Block} {n : Fin 24} (h : (heldWords b n)[8] = none) (reason : Reason) (stamp : Option Word) :
    formPass n reason stamp b =
      if baseOutstanding b n then defer (.base n reason stamp) b else issueBase n reason stamp b := by
  simp only [formPass, h]

/-- Settles O22: an unlocked slot's write-back is issued and a locked one's held; a halt or skip write-back finds its base
held, or reads it, or waits behind a base read. -/
theorem writeBackFormed : Obligations.WriteBackFormed := by
  refine ⟨fun n ws notice b => ⟨fun h => ?_, fun l hl hslot => ?_⟩, fun n reason stamp b => ?_⟩
  · rw [formWriteBack_unlocked h, mark_iff, issueWriteBack_shadow, if_pos rfl, issueWriteBack_eq]
    exact ⟨rfl, rfl, Nat.succ_ne_zero _, rfl⟩
  · subst hslot
    rw [formWriteBack_locked hl]
    refine ⟨mergeHeld l.held ws notice, rfl, rfl, rfl, fun hheld => ?_, fun old hold => ?_⟩
    · simp [hheld, mergeHeld]
    · rw [hold]
      exact ⟨rfl, fun i => mergeWords_getElem old.words ws i⟩
  · intro covered heldBase read outstanding
    have hbase (w : Word) : heldBase w ↔ (heldWords b n)[8] = some w := heldWords_eq_some.symm
    have hnone (h : ∀ w, ¬ heldBase w) : (heldWords b n)[8] = none :=
      Option.eq_none_iff_forall_ne_some.mpr fun w hw => h w ((hbase w).mpr hw)
    refine ⟨fun w hw => formPass_held ((hbase w).mp hw) reason stamp, fun hw hout => ?_, fun hw hout => ?_, rfl, rfl⟩
    · rw [formPass_not_held (hnone hw), if_pos (baseOutstanding_iff.mpr hout)]
      rfl
    · rw [formPass_not_held (hnone hw), if_neg (fun h => hout (baseOutstanding_iff.mp h)), issueBase_eq]

/-! ## The completions of the Order Table's accesses -/

theorem writeBackDone_eq (n : Fin 24) (notice : Bool) (b : Block) :
    writeBackDone n notice b = { b with
      orders := { b.orders with
        shadows := b.orders.shadows.set n { b.shadow n with writeBacks := (b.shadow n).writeBacks - 1 } },
      stand := { b.stand with flags := if notice then b.stand.flags ||| 0x02 else b.stand.flags } } := by
  cases notice <;> rfl

theorem formWriteBack_deferred (n : Fin 24) (ws : ResultWords) (notice : Bool) (b : Block) :
    (formWriteBack n ws notice b).orders.deferred = b.orders.deferred := by
  unfold formWriteBack
  split
  · split <;> rfl
  · rfl

theorem formFromBase_deferred (r : BaseRead) (base : Word) (b : Block) :
    (formFromBase r base b).orders.deferred = b.orders.deferred := by
  unfold formFromBase
  dsimp only
  split
  · rfl
  · exact formWriteBack_deferred _ _ _ b

/-- With nothing waiting behind it, a completed base read only forms its write-back. -/
theorem baseReadDone_none_deferred {r : BaseRead} {b : Block} (h : ∀ d ∈ b.orders.deferred, d.isOf r.slot = false)
    (base : Word) : baseReadDone r [base] b = formFromBase r base b := by
  have hmine : b.orders.deferred.filter (Deferred.isOf r.slot) = [] := by simpa using h
  have hothers : b.orders.deferred.filter (fun d => !d.isOf r.slot) = b.orders.deferred := by simpa using h
  simp only [baseReadDone, List.headD_cons, formFromBase_deferred, hmine, hothers, List.foldl_nil]
  rw [← formFromBase_deferred r base b]
  rfl

/-- Settles O23: the owner's part of a completion, for a write-back and for a base read. -/
theorem writeBackAccessesComplete : Obligations.WriteBackAccessesComplete := by
  refine ⟨fun n notice v s hport hlast howner => ?_, fun r base v s hport hlast howner hgot => ?_⟩
  · have hexec : exec .writeBackComplete s = completing (lastOf Owner.isWriteBack) s := rfl
    rw [hexec, completing_last hport hlast (by simp only [lastOf, hlast, howner]; rfl), howner]
    simp only [ownerDone, writeBackDone_eq]
    rfl
  · intro ws b c mine taken
    have hexec : exec .skipBaseReadComplete s = .next ⟨s.pending, settle (baseReadDone r [base] b)⟩ := by
      have hcompleting : exec .skipBaseReadComplete s = completing (lastOf Owner.isSkipBase) s := rfl
      rw [hcompleting, completing_last hport hlast (by simp only [lastOf, hlast, howner]; rfl), howner, hgot]
      rfl
    have hform : formFromBase r base b = c := rfl
    have hmine : Deferred.isOf r.slot = mine := by funext d; cases d <;> rfl
    have htaken : takeUp = taken := by funext b d; cases d <;> rfl
    have hdeferred : c.orders.deferred = s.part.orders.deferred := formFromBase_deferred r base b
    refine ⟨fun h => ?_, ?_⟩
    · rw [hexec, baseReadDone_none_deferred (by rw [hmine]; exact h), hform]
    · rw [hexec, baseReadDone, List.headD_cons, hform, htaken, hdeferred, ← hmine]
      rfl

/-! ## The load of a result copy -/

/-- The reads of a load, with the result words numbered from 7. -/
theorem loadReads_eq (b : Block) (n : Fin 24) (known : ResultWords) :
    loadReads b n known = (List.finRange 9).filterMap (fun i => cond known[i].isSome none
      (some (.read (addrOf b.path.straps (.order n (Fin.ofNat 16 (7 + i.val))))))) := by
  simp only [loadReads, resultAddr, Nat.add_comm 7, Bool.cond_eq_ite]

theorem loadReads_eq_nil {b : Block} {n : Fin 24} {known : ResultWords} (h : ∀ i : Fin 9, known[i].isSome = true) :
    loadReads b n known = [] := by
  simp only [loadReads, h, if_true, List.filterMap_eq_nil_iff, implies_true]

theorem loadReads_ne_nil {b : Block} {n : Fin 24} {known : ResultWords} {i : Fin 9} (h : known[i] = none) :
    loadReads b n known ≠ [] := by
  intro hnil
  have := List.filterMap_eq_nil_iff.mp hnil i (List.mem_finRange i)
  simp only [h, Option.isSome_none, Bool.false_eq_true, if_false, reduceCtorEq] at this

theorem loadResult_deferred {b : Block} {n : Fin 24} (h : baseOutstanding b n = true) :
    loadResult n b = defer (.load n) b := by
  simp only [loadResult, h, if_true]

theorem loadResult_issued {b : Block} {n : Fin 24} (h : ¬ baseOutstanding b n = true)
    (hreads : loadReads b n (heldWords b n) ≠ []) :
    loadResult n b = issue (.resultLoad (heldWords b n)) (.words (loadReads b n (heldWords b n))) b := by
  rw [loadResult, if_neg h]
  dsimp only
  split
  case h_1 hnil => exact absurd hnil hreads
  case h_2 => rfl

theorem loadResult_at_once {b : Block} {n : Fin 24} (h : ¬ baseOutstanding b n = true)
    (hreads : loadReads b n (heldWords b n) = []) :
    loadResult n b = resultLoaded (loadedWords (heldWords b n) []) b := by
  rw [loadResult, if_neg h]
  dsimp only
  rw [hreads]

/-- The copy's words in their places: a known word stands, an unknown one takes the next word read. -/
theorem fillWords_getElem? (l : List (Option Word)) (got : List Word) (i : Nat) :
    (fillWords l got)[i]? = l[i]?.map (fun w => w.getD (got.getD ((l.take i).countP Option.isNone) 0)) := by
  induction l generalizing got i with
  | nil => simp [fillWords]
  | cons w l ih =>
    cases i with
    | zero => cases w <;> cases got <;> simp [fillWords]
    | succ i =>
      cases w with
      | some w => simp [fillWords, ih]
      | none => cases got <;> simp [fillWords, ih]

theorem loadedWords_getElem (known : ResultWords) (got : List Word) (i : Fin 9) :
    (loadedWords known got)[i] = known[i].getD (got.getD ((known.toList.take i.val).countP Option.isNone) 0) := by
  simp [loadedWords, fillWords_getElem?]

/-- The words still unknown before place `i`, counted over the places. -/
theorem countP_take_eq (known : ResultWords) (i : Fin 9) :
    (known.toList.take i.val).countP Option.isNone
      = ((List.finRange 9).filter (fun j => decide (j < i) && known[j].isNone)).length := by
  have hlist : known.toList = (List.finRange 9).map (fun j => known[j]) := by
    apply List.ext_getElem <;> simp
  have htake : (List.finRange 9).take i.val = (List.finRange 9).filter (fun j => decide (j < i)) := by
    revert i; decide
  rw [hlist, ← List.map_take, htake, List.countP_map, List.countP_eq_length_filter, List.filter_filter]
  simp only [Function.comp_def, Bool.and_comm]

/-- What the copy's load leads to: the first step, or the ending that is pending. -/
theorem resultLoaded_beginStep {b : Block} (hw : b.gate.withdrawPending = false) (hr : b.gate.resetPending = false)
    (r : Vector Word 9) : resultLoaded r b = beginStep { b with gate := { b.gate with result := some r } } := by
  simp only [resultLoaded, Gate.ending, hw, hr, Bool.or_self, Bool.false_eq_true, if_false]
  rfl

theorem resultLoaded_endPending {b : Block} (h : b.gate.withdrawPending = true ∨ b.gate.resetPending = true)
    (r : Vector Word 9) : resultLoaded r b = endPending { b with gate := { b.gate with result := some r } } := by
  have hending : b.gate.ending = true := by simpa only [Gate.ending, Bool.or_eq_true] using h
  simp only [resultLoaded, hending, if_true]
  rfl

theorem exec_resultCopyLoaded {s : State} {v : Service} {known : ResultWords} (hport : s.part.path.port = some v)
    (hlast : v.last = true) (howner : v.owner = .resultLoad known) :
    exec .resultCopyLoaded s
      = .next ⟨s.pending, settle (resultLoaded (loadedWords known v.got) (freePort s.part))⟩ := by
  have hexec : exec .resultCopyLoaded s = completing (lastOf Owner.isResultLoad) s := rfl
  rw [hexec, completing_last hport hlast (by simp only [lastOf, hlast, howner]; rfl), howner]
  rfl

/-- With every word held, the copy is the held words. -/
theorem loadedWords_known {known : ResultWords} {r : Vector Word 9} (h : ∀ i : Fin 9, known[i] = some r[i])
    (got : List Word) : loadedWords known got = r := by
  apply Vector.ext
  intro i hi
  have hword := loadedWords_getElem known got ⟨i, hi⟩
  rw [h] at hword
  exact hword

/-- Settles O36: the load as it is asked for, then as its reads complete. -/
theorem resultCopyLoads : Obligations.ResultCopyLoads := by
  refine ⟨fun n b => ?_, fun known got v s hport hlast howner hgot => ?_⟩
  · intro outstanding known
    refine ⟨fun l w hl hslot hw => ?_, fun h i => ?_, fun hout => ?_, fun hout hopen => ?_, fun r hout hall => ?_⟩
    · subst hslot
      exact heldWords_of_lock hl hw
    · have hnone : known = Vector.replicate 9 none := heldWords_none fun l w hl hslot => h l w hl hslot
      simp [hnone]
    · exact loadResult_deferred (baseOutstanding_iff.mpr hout)
    · obtain ⟨i, hi⟩ := hopen
      rw [loadResult_issued (fun h => hout (baseOutstanding_iff.mp h)) (loadReads_ne_nil hi), loadReads_eq]
      rfl
    · intro c pending
      have hload : loadResult n b = resultLoaded r b := by
        have hreads : loadReads b n known = [] := loadReads_eq_nil fun i => by rw [hall i]; rfl
        rw [loadResult_at_once (fun h => hout (baseOutstanding_iff.mp h)) hreads, loadedWords_known hall]
      refine ⟨fun hp => hload.trans (resultLoaded_endPending hp r), fun hp => hload.trans ?_⟩
      exact resultLoaded_beginStep (by simpa using fun h => hp (.inl h)) (by simpa using fun h => hp (.inr h)) r
  · intro b
    have hexec : exec .resultCopyLoaded s
        = .next ⟨s.pending, settle (resultLoaded (loadedWords known got) (freePort s.part))⟩ := by
      rw [exec_resultCopyLoaded hport hlast howner, hgot]
    refine ⟨fun hw hr => ?_, fun hw => ?_, fun hw hr => ?_, fun i w hi => ?_, fun i hi => ?_⟩
    · have hload : resultLoaded (loadedWords known got) (freePort s.part) = beginStep b :=
        resultLoaded_beginStep (b := freePort s.part) hw hr _
      rw [hexec, hload]
    · have hload : resultLoaded (loadedWords known got) (freePort s.part) = endPending b :=
        resultLoaded_endPending (b := freePort s.part) (.inl hw) _
      rw [hexec, hload, endPending, if_pos hw]
    · have hload : resultLoaded (loadedWords known got) (freePort s.part) = endPending b :=
        resultLoaded_endPending (b := freePort s.part) (.inr hr) _
      rw [hexec, hload, endPending, if_neg (by simpa [b] using hw)]
    · rw [loadedWords_getElem, hi, Option.getD_some]
    · rw [loadedWords_getElem, hi, Option.getD_none, countP_take_eq]

/-! ## The address of an order word -/

theorem windowBase_cases (straps : BitVec 2) : windowBase straps = 0x18000 ∨ windowBase straps = 0x1A000
    ∨ windowBase straps = 0x1C000 ∨ windowBase straps = 0x1E000 := by
  revert straps; decide

theorem addrOf_order_lt (straps : BitVec 2) (n : Fin 24) (k : Fin 16) : addrOf straps (.order n k) < nvBase := by
  have hbase := windowBase_cases straps
  simp only [addrOf, nvBase]
  omega

theorem evenAddr_order (straps : BitVec 2) (n : Fin 24) (k : Fin 16) :
    evenAddr (addrOf straps (.order n k)) = addrOf straps (.order n k) := by
  have hbase := windowBase_cases straps
  simp only [evenAddr, addrOf]
  omega

/-- Word `k` of slot `n` is window word 256 + 16 n + k. -/
theorem windowTarget_order (addr : Nat) (n : Fin 24) (k : Fin 16) :
    windowTarget addr (256 + 16 * n.val + k.val) = .order n k := by
  have hn : Fin.ofNat 24 ((256 + 16 * n.val + k.val - 256) / 16) = n :=
    Fin.ext (show (256 + 16 * n.val + k.val - 256) / 16 % 24 = n.val by omega)
  have hk : Fin.ofNat 16 ((256 + 16 * n.val + k.val - 256) % 16) = k :=
    Fin.ext (show (256 + 16 * n.val + k.val - 256) % 16 % 16 = k.val by omega)
  rw [windowTarget, if_neg (by omega), if_neg (by omega), if_neg (by omega), if_neg (by omega), if_neg (by omega),
    if_pos (by omega), hn, hk]

theorem decodeAddr_order (straps : BitVec 2) (n : Fin 24) (k : Fin 16) :
    decodeAddr straps (addrOf straps (.order n k)) = .order n k := by
  have hbase := windowBase_cases straps
  have hlt := addrOf_order_lt straps n k
  have hin : inWindow straps (addrOf straps (.order n k)) = true :=
    decide_eq_true (by simp only [addrOf]; omega)
  have hword : (addrOf straps (.order n k) - windowBase straps) / 2 = 256 + 16 * n.val + k.val := by
    simp only [addrOf]
    omega
  simp only [nvBase] at hlt
  simp only [decodeAddr, evenAddr_order, nvBase, hin, hword, if_true]
  rw [if_neg (by omega), if_neg (by omega), windowTarget_order]

/-- Order words are not guarded. -/
theorem refusesStore_order (b : Block) (n : Fin 24) (k : Fin 16) :
    b.refusesStore (addrOf b.path.straps (.order n k)) = false := by
  simp only [Block.refusesStore, decodeAddr_order]

/-! ## What leads, as the Account Store Port takes a claim -/

/-- What a shadow leads RAM in depends on the lock, the straps and the write-backs in the part list. -/
theorem leads_congr {b c : Block} {n : Fin 24} (k : Fin 16) (hlock : c.orders.lock = b.orders.lock)
    (hstraps : c.path.straps = b.path.straps)
    (hlist : ∀ a, c.path.partList.any (fun s => s.owner.isWriteBackOf n && s.willWrite a)
      = b.path.partList.any (fun s => s.owner.isWriteBackOf n && s.willWrite a)) :
    c.leads n k = b.leads n k := by
  have hheld : heldWords c n = heldWords b n := by simp only [heldWords, heldOf, hlock]
  simp only [Block.leads, hheld, hstraps, hlist]

theorem takeControllerClaim_partList (b : Block) : (takeControllerClaim b).path.partList = b.path.partList := by
  have hrefuse (a : Nat) (c : Block) : (refuse a c).path.partList = c.path.partList := by
    unfold refuse
    split <;> simp
  unfold takeControllerClaim
  dsimp only
  (repeat' split) <;> simp [hrefuse, beginClaim, latchWords, waitAtPort, setBus]

/-- A claim that the part's own blocks make adds at most reads of the NV store to the part list. -/
theorem takePartClaim_partList (b : Block) : (takePartClaim b).path.partList = b.path.partList ∨
    ∃ w : WordSet, (∀ n, w.owner.isWriteBackOf n = false) ∧ (takePartClaim b).path.partList = b.path.partList ++ [w] := by
  unfold takePartClaim
  split
  · exact .inr ⟨_, fun _ => rfl, rfl⟩
  · split
    · exact .inr ⟨_, fun _ => rfl, rfl⟩
    · split
      · exact .inr ⟨_, fun _ => rfl, rfl⟩
      · exact .inl rfl

theorem nvTake_partList (b : Block) : (nvTake b).path.partList = b.path.partList ∨
    ∃ w : WordSet, (∀ n, w.owner.isWriteBackOf n = false) ∧ (nvTake b).path.partList = b.path.partList ++ [w] := by
  unfold nvTake
  dsimp only
  split
  · split
    · rw [← takeControllerClaim_partList b]
      exact takePartClaim_partList _
    · exact .inl (takeControllerClaim_partList b)
  · exact .inl rfl

theorem nvTake_leads (b : Block) (n : Fin 24) (k : Fin 16) : (nvTake b).leads n k = b.leads n k := by
  refine leads_congr k (by simp) (by simp) fun a => ?_
  rcases nvTake_partList b with h | ⟨w, hw, h⟩
  · rw [h]
  · rw [h, List.any_append, List.any_cons, hw]
    simp

/-! ## A write of an order's setup or result word -/

theorem memoryAccess_bus (a : Access) (b : Block) : (memoryAccess a b).path.bus = .memory a := rfl

/-- The event's end leaves the write on the bus while the port is busy. -/
theorem settle_memoryAccess_busy {b : Block} (h : b.path.port.isSome = true) (a : Access) :
    settle (memoryAccess a b) = nvTake (memoryAccess a b) := settle_busy h

/-- The write of an order word that finds the port free: its word is stored, and the shadow takes it unless it leads. -/
theorem settle_orderWord {b : Block} (hport : b.path.port = none) (hreset : b.inReset = false) (n : Fin 24) (k : Fin 16)
    (v : Word) :
    let a := addrOf b.path.straps (.order n k)
    let c := settle (memoryAccess (.write a v) b)
    c.mem = writeWord b.mem a v ∧ c.path.bus = .memory (.write a v) ∧ c.orders.lock = b.orders.lock ∧ c.expo = b.expo
      ∧ ∀ m, c.shadow m = if n = m ∧ ¬ b.leads n k then Shadow.take k v (b.shadow m) else b.shadow m := by
  intro a c
  have heven : evenAddr a = a := evenAddr_order _ n k
  set d : Block := (nvTake (memoryAccess (.write a v) b)).setMem (writeWord b.mem a v) with hd
  have hc : c = (noteWrite a v d).setPath
      { d.path with ctlWait := none, port := some ⟨.controller, .write a v, 0, true, []⟩ } := by
    have hstore := settle_store hport hreset v (a := a) (by rw [heven]; exact addrOf_order_lt _ n k)
      (refusesStore_order b n k)
    rwa [heven] at hstore
  have hdshadow (m : Fin 24) : d.shadow m = b.shadow m := by simp [hd, Block.shadow]
  have hleads : d.leads n k = b.leads n k := by
    have : d.leads n k = (nvTake (memoryAccess (.write a v) b)).leads n k := rfl
    rw [this, nvTake_leads]
    rfl
  have hnote : noteWrite a v d = if b.leads n k then d else withShadow n (Shadow.take k v) d := by
    rw [noteWrite_order (n := n) (k := k) (by simp [hd, memoryAccess, a, decodeAddr_order]), hleads]
  have hlock : c.orders.lock = b.orders.lock := by
    rw [hc, setPath_orders, (noteWrite_parts a v d).1]
    simp [hd]
  refine ⟨by simp [hc, hd], ?_, hlock, ?_, fun m => ?_⟩
  · rw [hc, setPath_path, hd, setMem_path, (nvTake_memory (memoryAccess_bus _ b)).2.1, memoryAccess_bus]
  · rw [hc, setPath_expo, hnote]
    split <;> simp [hd]
  · have hshadow : c.shadow m = (noteWrite a v d).shadow m := by rw [hc]; rfl
    rw [hshadow, hnote]
    cases b.leads n k <;> simp [shadow_withShadow, hdshadow]

/-- Words 0 and 9 to 15 set no field of the shadow. -/
theorem take_other {k : Fin 16} (h : k.val = 0 ∨ 9 ≤ k.val) (v : Word) (sh : Shadow) : Shadow.take k v sh = sh := by
  unfold Shadow.take
  split
  case h_9 => rfl
  all_goals omega

/-- Settles O21: the write finds the port free or busy; then what each word sets. -/
theorem orderWordWritesStored : Obligations.OrderWordWritesStored := by
  refine ⟨fun n k v s c hs hmem hc hwf => ?_, fun v sh => ?_⟩
  · intro a
    refine ⟨_, exec_orderWordWrite hs hc hwf, ?_⟩
    rcases hport : s.part.path.port with _ | service
    · obtain ⟨hstored, hbus, hlock, hexpo, hshadow⟩ := settle_orderWord hport hs.2.1 n k v
      refine ⟨hbus, fun m hm => ?_, fun x hx => ?_, fun _ => ⟨?_, ?_⟩, fun h => ?_, by simp, by simp, by simp, by simp,
        hexpo, hlock⟩
      · rw [hshadow, if_neg fun h => hm h.1.symm]
      · rw [hstored, get_writeWord_other hmem v hx]
      · rw [hstored, readWord_writeWord hmem]
      · rw [hshadow]
        cases s.part.leads n k <;> simp
      · simp at h
    · have hbusy : settle (memoryAccess (.write a v) s.part) = nvTake (memoryAccess (.write a v) s.part) :=
        settle_memoryAccess_busy (by rw [hport]; rfl) _
      rw [hbusy]
      have hbus : (nvTake (memoryAccess (.write a v) s.part)).path.bus = .memory (.write a v) :=
        (nvTake_memory (memoryAccess_bus _ s.part)).2.1
      refine ⟨hbus, ?_⟩
      simp [Block.shadow, memoryAccess, hport]
  · exact ⟨rfl, rfl, rfl, by simp [Shadow.take], by simp [Shadow.take, Nat.shiftRight_eq_div_pow], rfl, rfl,
      by simp [Shadow.take], rfl, rfl, rfl, fun k hk => take_other hk v sh⟩

end Sys2Proof.Machine
end

section
/-! The gate cycle: ARRIVE and WITHDRAW, the scan, the visits, move-out, the completion of an exposure and the endings, and the
statements of chapter 2. -/

namespace Sys2Proof.Machine

/-! ## Commands in a reached state -/

theorem exec_arrive {s : State} (h : s.part.reached) :
    exec .arrive s = .next ⟨s.pending, settle (arriveOp s.part)⟩ := by
  have hexec : exec .arrive s = execArrive s := rfl
  simp only [hexec, execArrive, event, writeAt_reached h]

theorem exec_withdraw {s : State} (h : s.part.reached) :
    exec .withdraw s = .next ⟨s.pending, settle (withdrawOp s.part)⟩ := by
  have hexec : exec .withdraw s = execWithdraw s := rfl
  simp only [hexec, execWithdraw, event, writeAt_reached h]

/-! ## The end of a cycle -/

theorem releaseLock_setGate (g : Gate) (b : Block) : releaseLock (b.setGate g) = (releaseLock b).setGate g := by
  unfold releaseLock
  rw [setGate_orders]
  split
  · rfl
  · split <;> rfl

theorem standHeld_eq (b : Block) :
    standHeld b = { b with stand := { b.stand with st := .held, flags := b.stand.flags ||| 0x80 } } := rfl

theorem completeSoftReset_eq (b : Block) : completeSoftReset b =
    { releaseLock b with
      gate := { b.gate with st := .empty, resetPending := false },
      stand := { b.stand with flags := 0x80, softReset := false, st := .held } } := by
  have hstand : (releaseLock b).stand = b.stand := by simp
  have hflags : (0 : BitVec 8) ||| 0x80 = 0x80 := rfl
  rw [completeSoftReset, releaseLock_setGate, standHeld_eq, ← hstand, ← hflags]
  rfl

theorem standAfterCycle_softReset {b : Block} (h : b.stand.softReset = true) :
    standAfterCycle b = completeSoftReset b := by
  rw [standAfterCycle, if_pos h]

theorem standAfterCycle_holding {b : Block} (hr : b.stand.softReset = false) (h : b.stand.st = .holding) :
    standAfterCycle b = { b with stand := { b.stand with st := .held, flags := b.stand.flags ||| 0x80 } } := by
  rw [standAfterCycle, if_neg (by simp [hr]), if_pos h, standHeld_eq]

theorem standAfterCycle_other {b : Block} (hr : b.stand.softReset = false) (h : b.stand.st ≠ .holding) :
    standAfterCycle b = b := by
  rw [standAfterCycle, if_neg (by simp [hr]), if_neg h]

/-- Settles O24: the gate is DONE and GATE raised, and then the stand does what its own state asks. -/
theorem cycleEnds : Obligations.CycleEnds := by
  refine ⟨fun oc b => ?_, completeSoftReset_eq⟩
  intro c
  have hend : endCycle oc b = standAfterCycle c := rfl
  rw [hend]
  exact ⟨standAfterCycle_softReset (b := c), standAfterCycle_holding (b := c), standAfterCycle_other (b := c)⟩

/-! ## ARRIVE -/

theorem arriveAccepted_iff {b : Block} :
    arriveAccepted b = true ↔ (b.gate.st = .empty ∨ b.gate.st = .done) ∧ b.stand.st = .running := by
  simp [arriveAccepted, Block.gateQuiet]

theorem arriveOp_metering {b : Block} (h : arriveAccepted b = true) (hf : b.film.st = .ready ∨ b.film.st = .ended) :
    arriveOp b = beginConversion (startCycle b) := by
  rw [arriveOp, if_pos h]
  exact if_pos hf

theorem arriveOp_notReady {b : Block} (h : arriveAccepted b = true) (hf : ¬ (b.film.st = .ready ∨ b.film.st = .ended)) :
    arriveOp b = endCycle .notReady (startCycle b) := by
  rw [arriveOp, if_pos h]
  exact if_neg hf

/-- Settles O27: the gate and the stand decide whether ARRIVE is taken, then the film whether the slide is metered. -/
theorem arriveStartsCycle : Obligations.ArriveStartsCycle := by
  intro s hs g accepted
  have haccepted : arriveAccepted s.part = true ↔ accepted := arriveAccepted_iff
  rw [exec_arrive hs]
  refine ⟨fun h hf => ?_, fun h hf => ?_, fun h => ?_⟩
  · rw [arriveOp_metering (haccepted.mpr h) hf]
    rfl
  · rw [arriveOp_notReady (haccepted.mpr h) hf]
    rfl
  · rw [arriveOp, if_neg (fun ha => h (haccepted.mp ha))]
    rfl

/-! ## WITHDRAW -/

theorem ending_iff {g : Gate} : g.ending = true ↔ g.withdrawPending = true ∨ g.resetPending = true := by
  simp [Gate.ending]

theorem endPending_withdraw {b : Block} (h : b.gate.withdrawPending = true) :
    endPending b = endCancelled .aborted .aborted b := by
  rw [endPending, if_pos h]

theorem inFlight_iff {b : Block} : inFlight b = true ↔ ∃ a, b.gate.active = some a ∧ a.phase ≠ .waiting := by
  simp [inFlight, Option.any_eq_true]

/-- A conversion, an account read or work of the ACTIVE entry is under way: a pending mark waits for its end (R38, R39). -/
def Block.workUnderWay (b : Block) : Prop :=
  b.gate.st = .metering ∨ (b.gate.st = .planning ∧ b.gate.visiting.isSome = true)
    ∨ (b.gate.st = .serving ∧ ∃ a, b.gate.active = some a ∧ a.phase ≠ .waiting)

theorem endIfIdle_waits {b : Block} (h : b.workUnderWay) : endIfIdle b = b := by
  rcases h with hst | ⟨hst, hvisit⟩ | ⟨hst, hactive⟩
  · simp only [endIfIdle, hst]
  · obtain ⟨i, hi⟩ := Option.isSome_iff_exists.mp hvisit
    simp [endIfIdle, hst, hi]
  · simp [endIfIdle, hst, inFlight_iff.mpr hactive]

theorem endIfIdle_idle {b : Block} (hc : b.gate.inCycle = true) (h : ¬ b.workUnderWay) : endIfIdle b = endPending b := by
  unfold Block.workUnderWay at h
  cases hst : b.gate.st with
  | empty => simp [Gate.inCycle, hst] at hc
  | done => simp [Gate.inCycle, hst] at hc
  | metering => exact absurd (.inl hst) h
  | planning =>
    have hvisit : b.gate.visiting = none := by
      by_contra hv
      exact h (.inr (.inl ⟨hst, Option.isSome_iff_ne_none.mpr hv⟩))
    simp [endIfIdle, hst, hvisit]
  | serving =>
    have hidle : inFlight b = false :=
      Bool.eq_false_iff.mpr fun hf => h (.inr (.inr ⟨hst, inFlight_iff.mp hf⟩))
    simp [endIfIdle, hst, hidle]

theorem inCycle_ne_done {g : Gate} (h : g.inCycle = true) : g.st ≠ .done := by
  intro hst
  simp [Gate.inCycle, hst] at h

theorem withdrawOp_unmarked {b : Block} (hc : b.gate.inCycle = true)
    (h : ¬ (b.gate.withdrawPending = true ∨ b.gate.resetPending = true)) :
    withdrawOp b = endIfIdle { b with gate := { b.gate with withdrawPending := true } } := by
  have hending : b.gate.ending = false := Bool.eq_false_iff.mpr fun he => h (ending_iff.mp he)
  rw [withdrawOp, if_neg (inCycle_ne_done hc), if_pos ⟨hc, hending⟩]
  rfl

/-- Settles O28: by the gate's state and its marks; what is under way decides whether the new mark ends the cycle at once. -/
theorem withdrawTaken : Obligations.WithdrawTaken := by
  intro s hs b marked waits
  have hwaits : b.workUnderWay ↔ waits := Iff.rfl
  have hcycle : b.gate.inCycle = s.part.gate.inCycle := rfl
  rw [exec_withdraw hs]
  refine ⟨fun h => ?_, fun h => ?_, fun hc h => ?_, fun hc h hw => ?_, fun hc h hw => ?_⟩
  · simp [withdrawOp, Gate.inCycle, h]
  · rw [withdrawOp, if_pos h]
    rfl
  · have hending : s.part.gate.ending = true := ending_iff.mpr h
    rw [withdrawOp, if_neg (inCycle_ne_done hc), if_neg (by simp [hending])]
  · rw [withdrawOp_unmarked hc h, endIfIdle_waits (hwaits.mpr hw)]
  · rw [withdrawOp_unmarked hc h, endIfIdle_idle (hcycle.trans hc) (mt hwaits.mp hw), endPending_withdraw rfl]

/-! ## The ACTIVE entry's order at its end -/

theorem activeEntry_some {g : Gate} {a : ActiveOrder} {e : Entry} (ha : g.active = some a)
    (he : g.list[a.index]? = some e) : g.activeEntry = some (a, e) := by
  simp only [Gate.activeEntry, ha, he, Option.map_some]

theorem activeEntry_none {g : Gate} (h : g.active = none) : g.activeEntry = none := by
  simp only [Gate.activeEntry, h]

/-- A write-back changes no more of a shadow than the count of its write-backs. -/
theorem formWriteBack_shadow {β : Type} (g : Shadow → β) (hg : ∀ s k, g { s with writeBacks := k } = g s)
    (n m : Fin 24) (ws : ResultWords) (notice : Bool) (b : Block) :
    g ((formWriteBack n ws notice b).shadow m) = g (b.shadow m) := by
  have hissue : g ((issueWriteBack n ws notice b).shadow m) = g (b.shadow m) := by
    rw [issueWriteBack_shadow]
    split
    · exact hg _ _
    · rfl
  unfold formWriteBack
  split
  · split
    · rfl
    · exact hissue
  · exact hissue

theorem takeResult_eq (n : Fin 24) (code : OrderCode) (r : Vector Word 9) (b : Block) :
    takeResult n code r b = formWriteBack n (r.map some) true { b with orders := { b.orders with
      shadows := b.orders.shadows.set n { b.shadow n with code := code, lastServed := r[0], served := r[1] } } } := rfl

/-- The three fields of its shadow that a slot takes at its entry's end. -/
theorem takeResult_shadow (n : Fin 24) (code : OrderCode) (r : Vector Word 9) (b : Block) :
    ((takeResult n code r b).shadow n).code = code ∧ ((takeResult n code r b).shadow n).lastServed = r[0]
      ∧ ((takeResult n code r b).shadow n).served = r[1] := by
  unfold takeResult
  rw [formWriteBack_shadow (·.code) (fun _ _ => rfl), formWriteBack_shadow (·.lastServed) (fun _ _ => rfl),
    formWriteBack_shadow (·.served) (fun _ _ => rfl), shadow_withShadow, if_pos rfl]
  exact ⟨rfl, rfl, rfl⟩

theorem closeOrder_deactivated {e : Entry} (h : e.deactivated = true) (a : ActiveOrder) (reason : Reason) (b : Block) :
    closeOrder a e reason b = b := by
  rw [closeOrder, if_pos h]

theorem closeOrder_served {e : Entry} {b : Block} {r : Vector Word 9} (he : e.deactivated = false)
    (hr : b.gate.result = some r) (a : ActiveOrder) :
    let r' := completeResult r (some b.gate.ref) e.exposed a.charged a.first b.stand.clock .none
    closeOrder a e .none b = takeResult a.slot (codeAfter true a.limit r'[1]) r' b := by
  simp only [closeOrder, he, hr, Bool.false_eq_true, if_false, decide_true, if_true]

theorem closeOrder_halted {e : Entry} {b : Block} {r : Vector Word 9} {reason : Reason} (hn : reason ≠ .none)
    (he : e.deactivated = false) (hr : b.gate.result = some r) (a : ActiveOrder) :
    closeOrder a e reason b
      = takeResult a.slot .halted (completeResult r none e.exposed a.charged a.first b.stand.clock reason) b := by
  simp only [closeOrder, he, hr, hn, Bool.false_eq_true, if_false, decide_false, codeAfter]

/-! ## A cycle that ends with its entries cancelled -/

theorem cancel_eq (reason : Reason) (e : Entry) : e.cancel reason =
    if e.st = .candidate ∨ e.st = .planned ∨ e.st = .active then { e with st := .cancelled, reason := reason, hold := 0 }
    else e := by
  cases hst : e.st <;> simp [Entry.cancel, hst]

/-- The order of the ACTIVE entry, if there is one, is closed (R9, R38-R41). -/
def closeActive (reason : Reason) (b : Block) : Block :=
  match b.gate.activeEntry with
  | none => b
  | some (a, e) => closeOrder a e reason b

theorem closeActive_some {b : Block} {a : ActiveOrder} {e : Entry} (ha : b.gate.active = some a)
    (he : b.gate.list[a.index]? = some e) (reason : Reason) : closeActive reason b = closeOrder a e reason b := by
  simp only [closeActive, activeEntry_some ha he]

theorem closeActive_none {b : Block} (h : b.gate.active = none) (reason : Reason) : closeActive reason b = b := by
  simp only [closeActive, activeEntry_none h]

/-- The closing of an order reaches the Order Table and the path alone. -/
theorem closeActive_frame (reason : Reason) (b : Block) :
    (closeActive reason b).gate = b.gate ∧ (closeActive reason b).film = b.film ∧ (closeActive reason b).expo = b.expo
      ∧ (closeActive reason b).stand = b.stand ∧ (closeActive reason b).charges = b.charges
      ∧ (closeActive reason b).pages = b.pages ∧ (closeActive reason b).nv = b.nv ∧ (closeActive reason b).mem = b.mem
      ∧ (closeActive reason b).link = b.link := by
  unfold closeActive
  split <;> simp

theorem endCancelled_eq (reason : Reason) (oc : OutcomeCode) (b : Block) : endCancelled reason oc b
    = endCycle oc (setList (b.gate.list.map (Entry.cancel reason)) (closeActive reason b)) := by
  have hgate : (closeActive reason b).gate = b.gate := (closeActive_frame reason b).1
  rw [← hgate]
  rfl

/-- Settles O29: the ACTIVE entry's order is closed, the list cancelled, and the cycle ends. -/
theorem cancelledEndingHaltsActiveOrder : Obligations.CancelledEndingHaltsActiveOrder := by
  intro reason oc b hreason
  obtain ⟨hgate, hframe⟩ := closeActive_frame reason b
  refine ⟨_, endCancelled_eq reason oc b, ?_, fun a e r ha he hd hr => ?_, fun a e ha he hd => ?_, fun ha => ?_, hframe⟩
  · have hcancel : Entry.cancel reason = _ := funext (cancel_eq reason)
    rw [← hcancel, setList, hgate]
    rfl
  · intro r' taken
    have hclose : closeActive reason b = takeResult a.slot .halted r' b := by
      rw [closeActive_some ha he, closeOrder_halted hreason hd hr]
    rw [hclose]
    exact ⟨rfl, rfl, (takeResult_shadow a.slot .halted r' b).1⟩
  · rw [closeActive_some ha he, closeOrder_deactivated hd]
    exact ⟨rfl, rfl⟩
  · rw [closeActive_none ha]
    exact ⟨rfl, rfl⟩

/-! ## The words of the completed result copy -/

theorem word_toNat {n : Nat} (h : n < 65536) : (word n).toNat = n := by
  rw [word, BitVec.toNat_ofNat, Nat.mod_eq_of_lt h]

theorem satAdd_toNat (w : Word) (n : Nat) : (satAdd w n).toNat = min 65535 (w.toNat + n) :=
  word_toNat (by omega)

/-- An amount is its high half before its low half. -/
theorem amount_halves (a : Amount) : highHalf a ++ lowHalf a = a := by
  apply BitVec.eq_of_getLsbD_eq
  intro i hi
  rw [BitVec.getLsbD_append]
  by_cases h : i < 16
  · simp [lowHalf, h]
  · simp [highHalf, h, show i - 16 < 16 by omega, show 16 + (i - 16) = i by omega]

theorem firstFrameAfter_kept {old : Word} {first : Option (Fin 4 × Fin 72)} (h : first = none ∨ old.toNat % 256 ≠ 0) :
    firstFrameAfter old first = old := by
  rcases first with _ | ⟨p, f⟩
  · rfl
  · have hold : bits old 0 8 ≠ 0 := by simpa [bits] using h
    simp only [firstFrameAfter, hold, if_false]

theorem firstFrameAfter_set {old : Word} (h : old.toNat % 256 = 0) (p : Fin 4) (f : Fin 72) :
    (firstFrameAfter old (some (p, f))).toNat = p.val * 256 + (f.val + 1) := by
  have hold : bits old 0 8 = 0 := by simpa [bits] using h
  rw [firstFrameAfter, if_pos hold, firstFrameWord, word_toNat (by omega)]

/-! ## The end of a SERVED entry -/

/-- What the end of a SERVED entry does before the next move-out (R35). -/
def closeServed (a : ActiveOrder) (e : Entry) (b : Block) : Block :=
  let b1 := withEntry a.index (fun e => { e with st := .served, hold := 0 }) (closeOrder a e .none b)
  let b2 := withOutcome (fun o => { o with served := count255 o.served }) b1
  b2.setGate { b2.gate with active := none, result := none }

theorem endServed_eq (a : ActiveOrder) (e : Entry) (b : Block) : endServed a e b = moveOut (closeServed a e b) := rfl

/-- The closing of the entry's order apart, only the gate changes. -/
theorem closeServed_eq (a : ActiveOrder) (e : Entry) (b : Block) : closeServed a e b =
    (closeOrder a e .none b).setGate { b.gate with
      list := b.gate.list.modify a.index (fun e => { e with st := .served, hold := 0 }),
      outcome := { b.gate.outcome with served := min 255 (b.gate.outcome.served + 1) }, active := none, result := none } := by
  have hgate : (closeOrder a e .none b).gate = b.gate := by simp
  rw [← hgate]
  rfl

/-- Settles O30: the entry is closed before the next move-out; then the completed copy, word by word. -/
theorem entryEndsServed : Obligations.EntryEndsServed := by
  refine ⟨fun a e b => ?_, fun r ref exposed charged first clock reason => ?_⟩
  · refine ⟨closeServed a e b, endServed_eq a e b, ?_, fun hd => ?_, fun r hd hr => ?_, ?_⟩
    · rw [closeServed_eq, setGate_gate]
    · rw [closeServed_eq, closeOrder_deactivated hd]
      exact ⟨rfl, rfl⟩
    · intro r' taken
      have hclose : closeOrder a e .none b = takeResult a.slot (codeAfter true a.limit r'[1]) r' b :=
        closeOrder_served hd hr a
      obtain ⟨hcode, hlast, hserved⟩ := takeResult_shadow a.slot (codeAfter true a.limit r'[1]) r' b
      rw [closeServed_eq, hclose]
      exact ⟨rfl, rfl, hcode, hlast, hserved⟩
    · simp [closeServed_eq]
  · intro r'
    have hsum : (r'[4] ++ r'[3] : Amount) = (r[4] ++ r[3] : Amount) + BitVec.ofNat 32 charged := amount_halves _
    refine ⟨fun w hw => ?_, fun hw => ?_, satAdd_toNat r[2] exposed, ?_, fun p f hf hold => ?_, firstFrameAfter_kept, rfl,
      ?_, rfl, fun limit count => ⟨rfl, rfl⟩⟩
    · subst hw
      exact ⟨rfl, satAdd_toNat r[1] 1⟩
    · subst hw
      exact ⟨rfl, rfl⟩
    · rw [hsum, BitVec.toNat_add, BitVec.toNat_ofNat, Nat.add_mod_mod]
    · subst hf
      exact firstFrameAfter_set hold p f
    · exact word_toNat (by cases reason <;> decide)

/-! ## Move-out -/

theorem firstPlanned_none {l : List Entry} (h : ∀ e ∈ l, e.st ≠ .planned) : firstPlanned l = none := by
  simpa [firstPlanned] using h

theorem firstPlanned_some {l : List Entry} {i : Nat} {e : Entry} (hi : l[i]? = some e) (he : e.st = .planned)
    (hfirst : ∀ j f, j < i → l[j]? = some f → f.st ≠ .planned) : firstPlanned l = some i := by
  obtain ⟨hlt, rfl⟩ := List.getElem?_eq_some_iff.mp hi
  rw [firstPlanned, List.findIdx?_eq_some_iff_getElem]
  refine ⟨hlt, by simpa using he, fun j hj => ?_⟩
  simpa using hfirst j _ hj (List.getElem?_eq_getElem (Nat.lt_trans hj hlt))

theorem servedOutcome_eq (l : List Entry) [Decidable (∃ e ∈ l, e.st = .served)] :
    servedOutcome l = if ∃ e ∈ l, e.st = .served then .served else .noneServed := by
  simp only [servedOutcome, List.any_eq_true, decide_eq_true_eq]

/-- A change of an entry that is known is a new entry in its place. -/
theorem withEntry_eq_set {b : Block} {i : Nat} {e : Entry} (h : b.gate.list[i]? = some e) (f : Entry → Entry) :
    withEntry i f b = setList (b.gate.list.set i (f e)) b := by
  rw [withEntry, List.modify_eq_set_getElem?, h]
  rfl

/-- What move-out makes of the gate and of the entry's slot, before the result copy is loaded (R32). -/
def makeActive (i : Nat) (e : Entry) (b : Block) : Block :=
  (withShadow e.slot (fun s => { s with code := .serving }) b).setGate { b.gate with
    st := .serving, list := b.gate.list.set i { e with st := .active }, result := none,
    active := some (activeOf i e (b.shadow e.slot).limit) }

theorem moveOut_planned {b : Block} {i : Nat} {e : Entry} (hi : b.gate.list[i]? = some e)
    (hfirst : firstPlanned b.gate.list = some i) : moveOut b = loadResult e.slot (makeActive i e b) := by
  simp only [moveOut, hfirst, hi, moveOutEntry]
  rw [withEntry_eq_set (b := withShadow e.slot _ b) hi]
  rfl

/-- Settles O35: no entry is PLANNED, or the first one in list order is. -/
theorem moveOutTakesFirstPlanned : Obligations.MoveOutTakesFirstPlanned := by
  refine fun b => ⟨fun h => ?_, fun i e hi he hfirst => ?_⟩
  · simp only [moveOut, firstPlanned_none h, servedOutcome_eq]
  · have hshadow (n : Fin 24) : (makeActive i e b).shadow n
        = if e.slot = n then { b.shadow n with code := .serving } else b.shadow n :=
      shadow_withShadow e.slot n (fun s => { s with code := .serving }) b
    refine ⟨makeActive i e b, moveOut_planned hi (firstPlanned_some hi he hfirst), rfl, ?_, fun n hn => ?_, rfl, rfl, rfl,
      rfl, rfl⟩
    · rw [hshadow, if_pos rfl]
    · rw [hshadow, if_neg hn.symm]

/-! ## The visits -/

theorem formPass_code (n m : Fin 24) (reason : Reason) (stamp : Option Word) (b : Block) :
    ((formPass n reason stamp b).shadow m).code = (b.shadow m).code := by
  cases hbase : (heldWords b n)[8] with
  | some base => rw [formPass_held hbase, formWriteBack_shadow (·.code) (fun _ _ => rfl)]
  | none =>
    rw [formPass_not_held hbase]
    split
    · rfl
    · unfold issueBase
      split
      · rfl
      · exact withShadow_keeps (·.code) (f := fun s => { s with writeBacks := s.writeBacks + 1 }) (fun _ => rfl) n m b

/-- A slot passed over keeps its code (R10). -/
theorem skipOrder_code (n m : Fin 24) (reason : Reason) (b : Block) :
    ((skipOrder n reason b).shadow m).code = (b.shadow m).code := formPass_code n m reason none b

theorem haltOrder_code (n : Fin 24) (b : Block) : ((haltOrder n b).shadow n).code = .halted := by
  rw [haltOrder, formPass_code, shadow_withShadow, if_pos rfl]

theorem dropEntry_eq {b : Block} {i : Nat} {e : Entry} (h : b.gate.list[i]? = some e) :
    dropEntry i b = b.setGate { b.gate with
      list := b.gate.list.set i { e with st := .dropped, hold := 0 },
      outcome := { b.gate.outcome with dropped := min 255 (b.gate.outcome.dropped + 1) } } := by
  rw [dropEntry, withEntry_eq_set h]
  rfl

theorem skipEntry_eq {b : Block} {i : Nat} {e : Entry} (h : b.gate.list[i]? = some e) (reason : Reason) :
    skipEntry i reason b = setList (b.gate.list.set i { e with st := .skipped, reason := reason }) b :=
  withEntry_eq_set h _

theorem filmShort_iff {b : Block} {frames : Nat} : filmShort b frames = false ↔
    b.film.st = .ready ∧ b.film.used + plannedFrames b.gate.list + frames ≤ b.film.length := by
  simp [filmShort]

theorem visit_deactivated {e : Entry} (h : e.deactivated = true) (i : Nat) (b : Block) :
    visit i e b = (dropEntry i b, false) := by
  simp only [visit, h, if_true]

theorem visit_badSetup {e : Entry} {b : Block} (hd : e.deactivated = false)
    (hv : setupValid (b.shadow e.slot) (schemeOf b (b.shadow e.slot)) = false) (i : Nat) :
    visit i e b = (haltOrder e.slot (skipEntry i .badSetup b), false) := by
  simp only [visit, hd, hv, Bool.false_eq_true, if_false, Bool.not_false, if_true]

theorem rollShort_eq {b : Block} {i : Nat} (hi : i < b.gate.list.length) (e : Entry) (n : Fin 24) :
    rollShort i n (setList (b.gate.list.set i e) b) = skipOrder n .rollShort (b.setGate { b.gate with
      list := b.gate.list.set i { e with st := .skipped, reason := .rollShort },
      outcome := { b.gate.outcome with rollShort := min 255 (b.gate.outcome.rollShort + 1) } }) := by
  have he : (setList (b.gate.list.set i e) b).gate.list[i]? = some e := List.getElem?_set_self hi
  have hset : (b.gate.list.set i e).set i { e with st := .skipped, reason := .rollShort }
      = b.gate.list.set i { e with st := .skipped, reason := .rollShort } := List.set_set ..
  rw [rollShort, skipEntry_eq he, ← hset]
  rfl

/-- An entry of valid setup for which the film is short takes the terms of its order and is SKIPPED (R29). -/
theorem visit_rollShort {e : Entry} {b : Block} {i : Nat} (hi : b.gate.list[i]? = some e) (hd : e.deactivated = false)
    (hv : setupValid (b.shadow e.slot) (schemeOf b (b.shadow e.slot)) = true) :
    let e' := e.plan (b.shadow e.slot) (schemeOf b (b.shadow e.slot))
    filmShort b e'.planned = true → visit i e b = (skipOrder e.slot .rollShort (b.setGate { b.gate with
      list := b.gate.list.set i { e' with st := .skipped, reason := .rollShort },
      outcome := { b.gate.outcome with rollShort := min 255 (b.gate.outcome.rollShort + 1) } }), false) := by
  intro e' hs
  have hlt : i < b.gate.list.length := (List.getElem?_eq_some_iff.mp hi).1
  rw [← rollShort_eq hlt]
  simp only [visit, hd, hv, Bool.false_eq_true, if_false, Bool.not_true, withEntry_eq_set hi]
  exact if_pos hs

/-- An entry of valid setup for which the film has room takes the terms of its order and waits for its account (R30). -/
theorem visit_awaits {e : Entry} {b : Block} {i : Nat} (hi : b.gate.list[i]? = some e) (hd : e.deactivated = false)
    (hv : setupValid (b.shadow e.slot) (schemeOf b (b.shadow e.slot)) = true) :
    let e' := e.plan (b.shadow e.slot) (schemeOf b (b.shadow e.slot))
    filmShort b e'.planned = false →
      visit i e b = (awaitAccount i e'.account (setList (b.gate.list.set i e') b), true) := by
  intro e' hs
  simp only [visit, hd, hv, Bool.false_eq_true, if_false, Bool.not_true, withEntry_eq_set hi]
  exact if_neg (Bool.eq_false_iff.mp hs)

/-! ## Which setups are valid -/

/-- The offsets in force are words 1 up to the count of the scheme (R52). -/
theorem mem_schemeOffsets {m : Vector Word 8} {o : Int} :
    o ∈ schemeOffsets m ↔ ∃ k : Fin 8, 1 ≤ k.val ∧ k.val ≤ m[0].toNat ∧ m[k].toInt = o := by
  simp only [schemeOffsets, schemeCount, List.mem_map, List.mem_take_iff_getElem, List.getElem_tail]
  constructor
  · rintro ⟨w, ⟨j, hj, rfl⟩, rfl⟩
    simp only [List.length_tail, Vector.length_toList] at hj
    exact ⟨⟨j + 1, by omega⟩, by dsimp only; omega, by dsimp only; omega, rfl⟩
  · rintro ⟨⟨k, hk⟩, h1, hcount, rfl⟩
    refine ⟨_, ⟨k - 1, ?_, rfl⟩, ?_⟩
    · rw [List.length_tail, Vector.length_toList]
      dsimp only at h1 hcount
      omega
    · simp [Nat.sub_add_cancel h1]

theorem orderTemplate_isSome {w : Word} : (orderTemplate w).isSome = true ↔ w.toNat ≤ 15 ∨ w = 0xFFFF := by
  unfold orderTemplate
  split
  case isTrue h => simp only [Option.isSome_some, h, or_true]
  case isFalse h => split <;> simp only [Option.isSome_some, Option.isSome_none, Bool.false_eq_true, or_false, *]

theorem setupValid_iff {sh : Shadow} {m : Vector Word 8} : setupValid sh m = true ↔
    (1 ≤ sh.copies.toNat ∧ sh.copies.toNat ≤ 9) ∧ (1 ≤ m[0].toNat ∧ m[0].toNat ≤ 7)
      ∧ (∀ k : Fin 8, 1 ≤ k.val → k.val ≤ m[0].toNat → -9 ≤ m[k].toInt ∧ m[k].toInt ≤ 9)
      ∧ sh.account.toNat ≤ 127 ∧ (sh.template.toNat ≤ 15 ∨ sh.template = 0xFFFF) := by
  have hoffsets : (∀ o ∈ schemeOffsets m, -9 ≤ o ∧ o ≤ 9)
      ↔ ∀ k : Fin 8, 1 ≤ k.val → k.val ≤ m[0].toNat → -9 ≤ m[k].toInt ∧ m[k].toInt ≤ 9 := by
    simp only [mem_schemeOffsets]
    exact ⟨fun h k h1 hk => h _ ⟨k, h1, hk, rfl⟩, fun h _ ⟨k, h1, hk, ho⟩ => ho ▸ h k h1 hk⟩
  simp only [setupValid, Bool.and_eq_true, List.all_eq_true, decide_eq_true_iff, orderTemplate_isSome, hoffsets,
    and_assoc]
  rfl

/-- The terms that a visit copies out of a valid setup (R29). -/
theorem plan_eq {sh : Shadow} {m : Vector Word 8} (h : setupValid sh m = true) (e : Entry) :
    ∃ acc : Fin 128, acc.val = sh.account.toNat ∧ e.plan sh m = { e with
      copies := sh.copies.toNat, steps := m[0].toNat, account := acc, planned := sh.copies.toNat * m[0].toNat,
      offsets := (m.toList.tail.take m[0].toNat).map (·.toInt),
      template := if sh.template = 0xFFFF then none else some (Fin.ofNat 16 sh.template.toNat) } := by
  obtain ⟨_, _, _, haccount, htemplate⟩ := setupValid_iff.mp h
  refine ⟨Fin.ofNat 128 sh.account.toNat, Nat.mod_eq_of_lt (by omega), ?_⟩
  have hfield : (orderTemplate sh.template).getD none
      = if sh.template = 0xFFFF then none else some (Fin.ofNat 16 sh.template.toNat) := by
    unfold orderTemplate
    split
    case isTrue => rfl
    case isFalse hnone => rw [if_pos (htemplate.resolve_right hnone), Option.getD_some]
  rw [Entry.plan, hfield]
  rfl

/-! ## The visits' order -/

theorem visit_length (i : Nat) (e : Entry) (b : Block) : (visit i e b).1.gate.list.length = b.gate.list.length := by
  unfold visit
  dsimp only
  split
  · simp [dropEntry, withOutcome, withEntry, setList]
  · split
    · simp [skipEntry, withEntry, setList]
    · split
      · simp [rollShort, withOutcome, skipEntry, withEntry, setList]
      · simp [awaitAccount, withEntry, setList]

theorem visitFrom_end {i : Nat} {b : Block} (h : b.gate.list.length ≤ i) : visitFrom i b = moveOut b := by
  rw [visitFrom, Nat.sub_eq_zero_of_le h]
  rfl

/-- A visit that does not wait is followed by the next entry's. -/
theorem visitFrom_step {i : Nat} {e : Entry} {b : Block} (h : b.gate.list[i]? = some e) :
    visitFrom i b = if (visit i e b).2 then (visit i e b).1 else visitFrom (i + 1) (visit i e b).1 := by
  obtain ⟨hlt, -⟩ := List.getElem?_eq_some_iff.mp h
  have hlen : b.gate.list.length - i = b.gate.list.length - (i + 1) + 1 := by omega
  rw [visitFrom, hlen, List.range'_succ, visitAll]
  simp only [h, visitFrom, visit_length]

/-- Settles O33: the visit's four outcomes, the valid setups, and the order of the visits. -/
theorem visitDecidesEntry : Obligations.VisitDecidesEntry := by
  refine ⟨fun i e b hi => ?_, fun sh m e => ⟨setupValid_iff, fun h => plan_eq h e⟩, fun b sh => rfl,
    fun i b => ⟨visitFrom_end, fun e he => ⟨fun h => ?_, fun h => ?_⟩⟩⟩
  · obtain ⟨hlt, -⟩ := List.getElem?_eq_some_iff.mp hi
    intro sh m c frames room
    have hroom : filmShort b (e.plan sh m).planned = false ↔ room := filmShort_iff
    refine ⟨fun hd => ?_, fun hd hv => ?_, fun hd hv _ hr => ?_, fun hd hv _ hr => ?_, ?_⟩
    · simp only [c, visit_deactivated hd, dropEntry_eq hi]
      exact ⟨trivial, rfl, rfl, rfl, rfl, rfl⟩
    · simp only [c, visit_badSetup hd hv, skipEntry_eq hi]
      exact ⟨trivial, by simp [setList], by simp [setList], haltOrder_code _ _, by simp, rfl⟩
    · have hshort : filmShort b (e.plan sh m).planned = true := by
        simpa only [Bool.not_eq_false] using mt hroom.mp hr
      simp only [c, visit_rollShort hi hd hv hshort]
      exact ⟨trivial, by simp [sh, m], by simp, skipOrder_code _ _ _ _, by simp, rfl⟩
    · simp only [c, visit_awaits hi hd hv (hroom.mpr hr)]
      exact ⟨trivial, rfl⟩
    · simp [c]
  · rw [visitFrom_step he, if_pos h]
  · rw [visitFrom_step he, if_neg (by simp [h])]

/-! ## The matches in order -/

/-- The latched settings' arbitration order as one number: the lower comes first (R27). -/
def scanRank (b : Block) (n : Fin 24) : Nat :=
  if b.stand.latched[0] = 0 then (b.shadow n).priority.toNat * 24 + n.val else n.val

theorem scanRank_lt_iff {b : Block} {m n : Fin 24} : scanRank b m < scanRank b n ↔
    if b.stand.latched[0] = 0 then
      (b.shadow m).priority.toNat < (b.shadow n).priority.toNat
        ∨ ((b.shadow m).priority = (b.shadow n).priority ∧ m.val < n.val)
    else m.val < n.val := by
  unfold scanRank
  split
  · rw [← BitVec.toNat_inj]
    omega
  · rfl

theorem comesBefore_iff {b : Block} {m n : Fin 24} : comesBefore b m n = true ↔ scanRank b m < scanRank b n := by
  rw [scanRank_lt_iff]
  simp only [comesBefore, Settings.byPriority, decide_eq_true_eq]
  split <;> simp [BitVec.lt_def]

theorem scanRank_injective (b : Block) : Function.Injective (scanRank b) := by
  intro m n h
  unfold scanRank at h
  split at h <;> omega

/-- A slot takes its place before the first that does not come before it, as in the library's insertion. -/
theorem insertSlot_eq (b : Block) (n : Fin 24) (l : List (Fin 24)) :
    insertSlot b n l = l.orderedInsert (fun x y => scanRank b x ≤ scanRank b y) n := by
  induction l with
  | nil => rfl
  | cons m l ih =>
    rw [insertSlot, List.orderedInsert_cons, ih]
    by_cases h : comesBefore b m n = true
    · rw [if_pos h, if_neg (Nat.not_le.mpr (comesBefore_iff.mp h))]
    · rw [if_neg h, if_pos (Nat.not_lt.mp (mt comesBefore_iff.mpr h))]

theorem orderedMatches_eq (b : Block) : orderedMatches b = ((List.finRange 24).filter (slotMatches b)).insertionSort
    (fun x y => scanRank b x ≤ scanRank b y) := by
  have hinsert : insertSlot b = List.orderedInsert (fun x y => scanRank b x ≤ scanRank b y) := by
    funext n l
    exact insertSlot_eq b n l
  rw [orderedMatches, hinsert]
  rfl

theorem mem_orderedMatches {b : Block} {n : Fin 24} : n ∈ orderedMatches b ↔ slotMatches b n = true := by
  simp [orderedMatches_eq, List.mem_insertionSort]

/-- Each match stands once, the lower rank before the higher. -/
theorem orderedMatches_pairwise (b : Block) : (orderedMatches b).Pairwise (fun m n => scanRank b m < scanRank b n) := by
  have htotal : Std.Total (fun x y : Fin 24 => scanRank b x ≤ scanRank b y) := ⟨fun x y => Nat.le_total _ _⟩
  have htrans : IsTrans (Fin 24) (fun x y => scanRank b x ≤ scanRank b y) := ⟨fun x y z => Nat.le_trans⟩
  have hnodup : (orderedMatches b).Nodup := by
    rw [orderedMatches_eq, (List.perm_insertionSort _ _).nodup_iff]
    exact (List.nodup_finRange 24).filter _
  have hsorted : (orderedMatches b).Pairwise (fun m n => scanRank b m ≤ scanRank b n) := by
    rw [orderedMatches_eq]
    exact List.pairwise_insertionSort _ _
  refine hsorted.imp₂ (fun m n hle hne => ?_) hnodup
  exact Nat.lt_of_le_of_ne hle fun h => hne (scanRank_injective b h)

/-- Two words agree under a mask exactly when they agree in every bit of it. -/
theorem xor_and_eq_zero_iff {v w mask : Word} :
    (v ^^^ w) &&& mask = 0 ↔ ∀ i, i < 16 → mask.getLsbD i = true → v.getLsbD i = w.getLsbD i := by
  constructor
  · intro h i _ hm
    have hbit := congrArg (·.getLsbD i) h
    simpa [hm] using hbit
  · intro h
    apply BitVec.eq_of_getLsbD_eq
    intro i hi
    have hbit := h i hi
    cases hm : mask.getLsbD i <;> simp_all

theorem slotMatches_iff {b : Block} {n : Fin 24} : slotMatches b n = true ↔
    (b.shadow n).code = .opened ∧ (∀ i, i < 16 → (b.shadow n).mask.getLsbD i = true →
      b.gate.ref.getLsbD i = (b.shadow n).ref.getLsbD i)
    ∧ (b.shadow n).lastServed ≠ b.gate.ref ∧ b.gate.deactivated[n] = false := by
  rw [← xor_and_eq_zero_iff]
  simp only [slotMatches, Bool.and_eq_true, decide_eq_true_eq, Bool.not_eq_true', and_assoc]

/-! ## The scan -/

/-- The matches listed, and those beyond the list passed over. -/
def listMatches (b : Block) : Block :=
  ((orderedMatches b).drop 8).foldl passOver (setList (((orderedMatches b).take 8).map Entry.candidate) b)

theorem scan_none {b : Block} (h : orderedMatches b = []) : scan b = endCycle .noMatch b := by
  simp only [scan, h, List.isEmpty_nil, if_true]

theorem scan_some {b : Block} (h : orderedMatches b ≠ []) :
    scan b = visitFrom 0 ((listMatches b).setGate { (listMatches b).gate with st := .planning }) := by
  simp only [scan, List.isEmpty_iff, h, if_false]
  rfl

theorem passOver_listFull (b : Block) (n : Fin 24) :
    (passOver b n).gate.outcome.listFull = min 255 (b.gate.outcome.listFull + 1) := by
  simp [passOver, withOutcome, count255]

theorem foldl_passOver_listFull (l : List (Fin 24)) (b : Block) : (l.foldl passOver b).gate.outcome.listFull =
    if l = [] then b.gate.outcome.listFull else min 255 (b.gate.outcome.listFull + l.length) := by
  induction l generalizing b with
  | nil => rfl
  | cons n l ih =>
    rw [List.foldl_cons, ih, passOver_listFull, if_neg (List.cons_ne_nil n l), List.length_cons]
    split
    case isTrue h => simp [h]
    case isFalse => omega

/-- Passing over leaves the list, the slots' codes and every block but the path and the Order Table. -/
theorem listMatches_keeps (b : Block) :
    (listMatches b).gate.list = ((orderedMatches b).take 8).map Entry.candidate
      ∧ (∀ n, ((listMatches b).shadow n).code = (b.shadow n).code) ∧ (listMatches b).film = b.film
      ∧ (listMatches b).expo = b.expo ∧ (listMatches b).charges = b.charges ∧ (listMatches b).pages = b.pages
      ∧ (listMatches b).mem = b.mem ∧ (listMatches b).stand = b.stand ∧ (listMatches b).link = b.link
      ∧ (listMatches b).nv = b.nv := by
  have hcode (n : Fin 24) (c : Block) (m : Fin 24) : ((passOver c m).shadow n).code = (c.shadow n).code :=
    skipOrder_code m n .listFull _
  refine ⟨foldl_keeps (·.gate.list) passOver (by simp [passOver, withOutcome]) _ _,
    fun n => foldl_keeps (fun c => (c.shadow n).code) passOver (hcode n) _ _, ?_⟩
  have hframe := foldl_keeps (fun c => (c.film, c.expo, c.charges, c.pages, c.mem, c.stand, c.link, c.nv)) passOver
    (by simp) ((orderedMatches b).drop 8) (setList (((orderedMatches b).take 8).map Entry.candidate) b)
  simpa only [listMatches, Prod.mk.injEq, setList_frame] using hframe

/-- Settles O32: the matches are a sorted list of the slots that match; the first eight are listed, the rest passed over. -/
theorem scanListsMatchesInOrder : Obligations.ScanListsMatchesInOrder := by
  refine fun b => ⟨fun n => mem_orderedMatches.trans slotMatches_iff, ?_, scan_none, fun h => ?_, scan_some, fun n => rfl⟩
  · exact (orderedMatches_pairwise b).imp scanRank_lt_iff.mp
  · obtain ⟨hlist, hcode, hframe⟩ := listMatches_keeps b
    refine ⟨_, scan_some h, rfl, hlist, ?_, hcode, hframe⟩
    have hempty : (orderedMatches b).drop 8 = [] ↔ (orderedMatches b).length ≤ 8 := List.drop_eq_nil_iff
    rw [setGate_gate, listMatches, foldl_passOver_listFull]
    simp only [hempty, List.length_drop]
    rfl

/-! ## The completion of an exposure -/

theorem exec_exposureCompletion (s : State) :
    exec .exposureCompletion s = .next ⟨s.pending, settle (exposureDone s.part)⟩ := rfl

theorem exposureInHand_some {b : Block} {a : ActiveOrder} {e : Entry} {p : Fin 4} {f : Fin 72}
    (ha : b.gate.active = some a) (he : b.gate.list[a.index]? = some e) (hphase : a.phase = .exposing)
    (hp : b.film.page = some p) (hf : b.film.used = f.val) : exposureInHand b = some (a, e, p, f) := by
  have hframe : Fin.ofNat 72 b.film.used = f := Fin.ext (by simp [hf])
  simp only [exposureInHand, activeEntry_some ha he, hp, hframe]
  exact if_pos ⟨hphase, hf ▸ f.isLt⟩

/-- What a completed exposure does before the Film Transport ends the frame (R34, R60, R79, R93). -/
def frameTaken (a : ActiveOrder) (e : Entry) (price : Nat) (p : Fin 4) (f : Fin 72) (b : Block) : Block :=
  countFrame a price p f (chargeFrame a price p f (recordFrame a e price p f (b.setExpo { b.expo with lamp := .off })))

theorem exposureDone_eq {b : Block} {a : ActiveOrder} {e : Entry} {p : Fin 4} {f : Fin 72}
    (h : exposureInHand b = some (a, e, p, f)) :
    exposureDone b = endFrame f (frameTaken a e (priceOf b a e) p f b) := by
  simp only [exposureDone, h]
  rfl

theorem withUseCount_useCount (t : Option (Fin 16)) (g : Nat → Nat) (b : Block) (u : Fin 16) :
    (withUseCount t g b).pages.useCount[u] = if t = some u then g b.pages.useCount[u] else b.pages.useCount[u] := by
  unfold withUseCount
  split
  case h_1 => simp
  case h_2 t =>
    by_cases htu : t = u
    · subst htu
      simp
    · have hval : t.val ≠ u.val := fun h => htu (Fin.ext h)
      simp [htu, hval]

/-- A use count apart, a change of one leaves the pages and the path. -/
theorem withUseCount_others (t : Option (Fin 16)) (g : Nat → Nat) (b : Block) :
    (withUseCount t g b).pages.pages = b.pages.pages ∧ (withUseCount t g b).path = b.path := by
  unfold withUseCount
  split <;> exact ⟨rfl, rfl⟩

theorem recordFrame_pages (a : ActiveOrder) (e : Entry) (price : Nat) (p : Fin 4) (f : Fin 72) (b : Block) :
    (recordFrame a e price p f b).pages.pages = b.pages.pages.set p { b.pages.pages[p] with
      used := f.val + 1, frames := b.pages.pages[p].frames.set f (newFrame a price) } :=
  (withUseCount_others _ _ _).1

theorem recordFrame_path (a : ActiveOrder) (e : Entry) (price : Nat) (p : Fin 4) (f : Fin 72) (b : Block) :
    (recordFrame a e price p f b).path = (issuePage (frameWrites b a e price p f) b).path :=
  (withUseCount_others _ _ _).2

theorem recordFrame_useCount (a : ActiveOrder) (e : Entry) (price : Nat) (p : Fin 4) (f : Fin 72) (b : Block) (t : Fin 16) :
    (recordFrame a e price p f b).pages.useCount[t]
      = b.pages.useCount[t] + (if a.template = some t then 1 else 0) := by
  have hcount := withUseCount_useCount a.template (fun n => n + 1)
    (withPage p (fun pg => { pg with used := f.val + 1, frames := pg.frames.set f (newFrame a price) })
      (issuePage (frameWrites b a e price p f) b)) t
  rw [recordFrame, hcount]
  split <;> rfl

theorem frameTaken_charges (a : ActiveOrder) (e : Entry) (price : Nat) (p : Fin 4) (f : Fin 72) (b : Block) :
    (frameTaken a e price p f b).charges = { b.charges with
      reserved := b.charges.reserved - 1,
      queue := b.charges.queue
        ++ [{ account := a.account, delta := -(price : Int), kind := .charge, page := p, frame := f }] } := by
  simp [frameTaken, chargeFrame, queuePosting]

/-- The blocks that a frame taken leaves, and the lamp. -/
theorem frameTaken_frame (a : ActiveOrder) (e : Entry) (price : Nat) (p : Fin 4) (f : Fin 72) (b : Block) :
    (frameTaken a e price p f b).expo = { b.expo with lamp := .off } ∧ (frameTaken a e price p f b).film = b.film
      ∧ (frameTaken a e price p f b).orders = b.orders ∧ (frameTaken a e price p f b).nv = b.nv
      ∧ (frameTaken a e price p f b).link = b.link ∧ (frameTaken a e price p f b).stand = b.stand
      ∧ (frameTaken a e price p f b).mem = b.mem := by
  simp [frameTaken]

theorem frameTaken_gate {a : ActiveOrder} {b : Block} (h : b.gate.active = some a) (e : Entry) (price : Nat) (p : Fin 4)
    (f : Fin 72) : (frameTaken a e price p f b).gate = { b.gate with
      list := b.gate.list.modify a.index (fun e => { e with exposed := e.exposed + 1, hold := e.hold - price }),
      outcome := { b.gate.outcome with exposed := min 255 (b.gate.outcome.exposed + 1) },
      active := some { a with first := a.first.or (some (p, f)), charged := a.charged + price } } := by
  have hcount (c : Block) (hc : c.gate = b.gate) : (countFrame a price p f c).gate = { b.gate with
      list := b.gate.list.modify a.index (fun e => { e with exposed := e.exposed + 1, hold := e.hold - price }),
      outcome := { b.gate.outcome with exposed := min 255 (b.gate.outcome.exposed + 1) },
      active := some { a with first := a.first.or (some (p, f)), charged := a.charged + price } } := by
    simp [countFrame, withActive, withOutcome, withEntry, setList, count255, hc, h]
  exact hcount _ (by simp)

/-- A frame's end when it is the roll's last (R70). -/
theorem endFrame_last {f : Fin 72} {b : Block} (h : f.val + 1 = b.film.length) :
    endFrame f b = stepEnded { b with
      film := { b.film with used := f.val + 1, st := .ended },
      stand := { b.stand with flags := b.stand.flags ||| 0x04 } } :=
  if_pos h

/-- A frame's end when others follow it on the roll (R70). -/
theorem endFrame_advance {f : Fin 72} {b : Block} (h : f.val + 1 ≠ b.film.length) :
    let st : Settings := b.stand.latched
    endFrame f b = { b with
      film := { b.film with
        used := f.val + 1, st := .advancing, pulses := 0, elapsed := 0, pulsesPerFrame := st.pulses,
        limit := st.advanceLimit },
      gate := { b.gate with active := b.gate.active.map (fun a => { a with phase := .advancing }) } } :=
  if_neg h

theorem frameWrites_eq (a : ActiveOrder) (e : Entry) (price : Nat) (p : Fin 4) (f : Fin 72) (b : Block) :
    frameWrites b a e price p f =
      [(.frame p f 0, BitVec.ofNat 16 (a.slot.val + e.step * 256 + e.copy * 4096)), (.frame p f 1, b.gate.ref),
        (.frame p f 2, BitVec.ofNat 16 (a.account.val + b.expo.index * 256 + (if b.expo.clipped then 32768 else 0))),
        (.frame p f 3, BitVec.ofNat 16 ((if a.template.isSome then 1 else 0)
          + templateField a.template * 256)),
        (.frame p f 4, BitVec.ofNat 16 price), (.frame p f 5, b.expo.stamp),
        (.header p 3, BitVec.ofNat 16 (f.val + 1))] := by
  have hclipped : flagBit b.expo.clipped * 32768 = if b.expo.clipped then 32768 else 0 := by
    cases b.expo.clipped <;> rfl
  have hlabel : labelWord (newFrame a price) = BitVec.ofNat 16 ((if a.template.isSome then 1 else 0)
      + templateField a.template * 256) := by
    cases ht : a.template <;> simp [labelWord, newFrame, word, LabelState.code, ht]
  rw [← hclipped, ← hlabel]
  rfl

/-- Settles O39: the frame is taken, then the Film Transport ends it; the words of its record are listed. -/
theorem exposureCompletes : Obligations.ExposureCompletes := by
  refine ⟨fun a e p f s ha he hphase hp hf => ?_, frameWrites_eq⟩
  intro st price
  obtain ⟨c, hc⟩ : ∃ c, c = frameTaken a e price p f s.part := ⟨_, rfl⟩
  have hframe := frameTaken_frame a e price p f s.part
  have hcharges := frameTaken_charges a e price p f s.part
  have hgate := frameTaken_gate ha e price p f
  rw [← hc] at hframe hcharges hgate
  obtain ⟨hexpo, hfilm, horders, hnv, hlink, hstand, hmem⟩ := hframe
  have hst : st = c.stand.latched := by rw [hstand]
  have hexec : exec .exposureCompletion s = .next ⟨s.pending, settle (endFrame f c)⟩ := by
    rw [exec_exposureCompletion, exposureDone_eq (exposureInHand_some ha he hphase hp hf), hc]
    rfl
  refine ⟨c.setFilm { s.part.film with used := f.val + 1 }, hcharges, hexpo, rfl, ?_, fun t => ?_, ?_, hgate, horders, hnv,
    hlink, hstand, hmem, fun h => ?_, fun h => ?_⟩
  · rw [setFilm_pages, hc]
    exact recordFrame_pages a e price p f _
  · rw [setFilm_pages, hc]
    exact recordFrame_useCount a e price p f _ t
  · rw [setFilm_path, hc]
    exact recordFrame_path a e price p f _
  · rw [hexec, endFrame_last (by rw [hfilm]; exact h), hfilm]
    rfl
  · rw [hexec, endFrame_advance (by rw [hfilm]; exact h), hfilm, hst]
    rfl

end Sys2Proof.Machine
end


section
/-! Metering and bracketed exposure: the judgement of a conversion, the steps of an entry and their exposure table reads, and the
statements of chapter 3. -/

namespace Sys2Proof.Machine

/-! ## A conversion's end -/

theorem exec_conversionCompletion (r : BitVec 10) (s : State) :
    exec (.conversionCompletion r) s = .next ⟨s.pending, settle (conversionDone r s.part)⟩ := rfl

theorem endPending_reset {b : Block} (hw : b.gate.withdrawPending = false) :
    endPending b = endCancelled .reset .reset b := by
  rw [endPending, if_neg (by simp [hw])]

theorem conversionDone_idle {b : Block} (h : b.expo.converting = false) (r : BitVec 10) : conversionDone r b = b :=
  if_neg (by simp [h])

theorem conversionDone_marked {b : Block} (hc : b.expo.converting = true)
    (hp : b.gate.withdrawPending = true ∨ b.gate.resetPending = true) (r : BitVec 10) :
    conversionDone r b = endPending (endConversion b) := by
  rw [conversionDone, if_pos hc]
  exact if_pos (ending_iff.mpr hp)

theorem conversionDone_unmarked {b : Block} (hc : b.expo.converting = true)
    (hp : ¬ (b.gate.withdrawPending = true ∨ b.gate.resetPending = true)) (r : BitVec 10) :
    conversionDone r b = judgeReading r (endConversion b) := by
  rw [conversionDone, if_pos hc]
  exact if_neg (mt ending_iff.mp hp)

/-- A reading that is not set aside stands in the Exposure Unit and in the outcome record (R25, R48). -/
def latchReading (r : BitVec 10) (b : Block) : Block :=
  { b with
    expo := { b.expo with reading := r }, gate := { b.gate with outcome := { b.gate.outcome with reading := r } } }

theorem judgeReading_dark {r : BitVec 10} {b : Block} (h : r.toNat < b.stand.latched[2].toNat) :
    judgeReading r b = endCycle .dark (latchReading r b) :=
  if_pos h

theorem judgeReading_bright {r : BitVec 10} {b : Block} (hd : b.stand.latched[2].toNat ≤ r.toNat)
    (h : b.stand.latched[3].toNat < r.toNat) : judgeReading r b = endCycle .bright (latchReading r b) :=
  (if_neg (Nat.not_lt.mpr hd)).trans (if_pos h)

/-- The density index of an accepted reading stands in the Exposure Unit and in the outcome record (R49). -/
theorem judgeReading_accepted {r : BitVec 10} {b : Block} (hd : b.stand.latched[2].toNat ≤ r.toNat)
    (hb : r.toNat ≤ b.stand.latched[3].toNat) :
    let c := latchReading r b
    judgeReading r b = scan { c with
      expo := { c.expo with density := densityIndex r },
      gate := { c.gate with outcome := { c.gate.outcome with density := densityIndex r } } } :=
  (if_neg (Nat.not_lt.mpr hd)).trans (if_neg (Nat.not_lt.mpr hb))

theorem densityIndex_le (r : BitVec 10) : densityIndex r ≤ 39 := by
  unfold densityIndex
  omega

/-- Settles O31: a conversion is in progress or not, a mark asks for its own ending, and the reading meets the thresholds. -/
theorem conversionJudged : Obligations.ConversionJudged := by
  intro r s b read dark bright pending d
  rw [exec_conversionCompletion]
  refine ⟨fun hc => ?idle, fun hc hw => ?withdraw, fun hc hw hr => ?reset, fun hc hp hd => ?dark, fun hc hp hd hb => ?bright,
    fun hc hp hd hb => ⟨densityIndex_le r, ?accepted⟩⟩
  case idle => rw [conversionDone_idle hc]
  case withdraw =>
    rw [conversionDone_marked hc (.inl hw), endPending_withdraw (b := endConversion s.part) hw]
    rfl
  case reset =>
    rw [conversionDone_marked hc (.inr hr), endPending_reset (b := endConversion s.part) hw]
    rfl
  case dark =>
    rw [conversionDone_unmarked hc hp, judgeReading_dark (b := endConversion s.part) hd]
    rfl
  case bright =>
    rw [conversionDone_unmarked hc hp, judgeReading_bright (b := endConversion s.part) hd hb]
    rfl
  case accepted =>
    rw [conversionDone_unmarked hc hp, judgeReading_accepted (b := endConversion s.part) hd hb]
    rfl

/-! ## The beginning of a step -/

theorem clampIndex_lt (raw : Int) : clampIndex raw < 64 := by
  unfold clampIndex
  omega

/-- Clamping changes exactly the raw values outside 0 to 63 (R54). -/
theorem clampIndex_ne_iff {raw : Int} : (clampIndex raw : Int) ≠ raw ↔ raw < 0 ∨ 63 < raw := by
  unfold clampIndex
  omega

/-- The exposure table entry of a clamped index is at that index, with no wrap. -/
theorem addrOf_exposure_clampIndex (straps : BitVec 2) (raw : Int) :
    addrOf straps (.exposure (Fin.ofNat 64 (clampIndex raw))) = windowBase straps + (0x0100 + 2 * clampIndex raw) := by
  simp only [addrOf, Fin.val_ofNat, Nat.mod_eq_of_lt (clampIndex_lt raw)]

theorem beginStep_eq {b : Block} {a : ActiveOrder} {e : Entry} (ha : b.gate.active = some a)
    (he : b.gate.list[a.index]? = some e) :
    let raw := rawIndex b a e.step
    beginStep b = { b with
      expo := { b.expo with index := clampIndex raw, clipped := decide ((clampIndex raw : Int) ≠ raw) },
      gate := { b.gate with active := some { a with phase := .tableRead } },
      path := { b.path with partList := b.path.partList ++
        [{ owner := .tableRead, got := [],
           work := .words [.read (windowBase b.path.straps + (0x0100 + 2 * clampIndex raw))] }] } } := by
  simp only [beginStep, activeEntry_some ha he, addrOf_exposure_clampIndex, clampIndex_ne_iff, withActive, issue,
    setExpo_gate, ha, Option.map_some]
  rfl

/-! ## The end of a step -/

theorem stepEnded_pending {b : Block} {a : ActiveOrder} {e : Entry} (ha : b.gate.active = some a)
    (he : b.gate.list[a.index]? = some e) (hp : b.gate.withdrawPending = true ∨ b.gate.resetPending = true) :
    stepEnded b = endPending b := by
  simp only [stepEnded, activeEntry_some ha he, ending_iff.mpr hp, if_true]

/-- With no mark pending, the next step of the entry begins (R33). -/
theorem stepEnded_next {b : Block} {a : ActiveOrder} {e : Entry} {copy step : Nat} (ha : b.gate.active = some a)
    (he : b.gate.list[a.index]? = some e) (hp : ¬ (b.gate.withdrawPending = true ∨ b.gate.resetPending = true))
    (hnext : nextStep a e = some (copy, step)) :
    stepEnded b = beginStep (withEntry a.index (fun e => { e with copy := copy, step := step }) b) := by
  simp only [stepEnded, activeEntry_some ha he, if_neg (mt ending_iff.mp hp), hnext]

/-- With no mark pending, the entry ends after its last step (R35). -/
theorem stepEnded_last {b : Block} {a : ActiveOrder} {e : Entry} (ha : b.gate.active = some a)
    (he : b.gate.list[a.index]? = some e) (hp : ¬ (b.gate.withdrawPending = true ∨ b.gate.resetPending = true))
    (hnext : nextStep a e = none) : stepEnded b = endServed a e b := by
  simp only [stepEnded, activeEntry_some ha he, if_neg (mt ending_iff.mp hp), hnext]

theorem nextStep_same_copy {a : ActiveOrder} {e : Entry} (h : e.step < a.steps) :
    nextStep a e = some (e.copy, e.step + 1) :=
  if_pos h

theorem nextStep_next_copy {a : ActiveOrder} {e : Entry} (h : a.steps ≤ e.step) (hc : e.copy < a.copies) :
    nextStep a e = some (e.copy + 1, 1) :=
  (if_neg (Nat.not_lt.mpr h)).trans (if_pos hc)

theorem nextStep_last {a : ActiveOrder} {e : Entry} (h : a.steps ≤ e.step) (hc : a.copies ≤ e.copy) :
    nextStep a e = none :=
  (if_neg (Nat.not_lt.mpr h)).trans (if_neg (Nat.not_lt.mpr hc))

/-- Settles O37: the step's index and its table read, then what follows a step. -/
theorem stepsRunCopyMajor : Obligations.StepsRunCopyMajor := by
  refine ⟨fun a e b ha he => beginStep_eq ha he, fun a e b ha he => ?_⟩
  intro pending goes
  exact ⟨stepEnded_pending ha he, fun hp hs => stepEnded_next ha he hp (nextStep_same_copy hs),
    fun hp hs hc => stepEnded_next ha he hp (nextStep_next_copy hs hc),
    fun hp hs hc => stepEnded_last ha he hp (nextStep_last hs hc)⟩

/-! ## The exposure table read of a step -/

theorem exec_exposureTableReadComplete {s : State} {v : Service} {w : Word} (hport : s.part.path.port = some v)
    (hlast : v.last = true) (howner : v.owner = .tableRead) (hgot : v.got = [w]) :
    exec .exposureTableReadComplete s = .next ⟨s.pending, settle (tableReadDone w (freePort s.part))⟩ := by
  have hexec : exec .exposureTableReadComplete s = completing (lastOf (Owner.is .tableRead)) s := rfl
  rw [hexec, completing_last hport hlast (by simp [lastOf, Owner.is, hlast, howner]), howner, hgot]
  rfl

theorem tableReadDone_pending {b : Block} {a : ActiveOrder} {e : Entry} (ha : b.gate.active = some a)
    (he : b.gate.list[a.index]? = some e) (hp : b.gate.withdrawPending = true ∨ b.gate.resetPending = true) (w : Word) :
    tableReadDone w b = endPending b := by
  simp only [tableReadDone, activeEntry_some ha he, ending_iff.mpr hp, if_true]

theorem tableReadDone_zero {b : Block} {a : ActiveOrder} {e : Entry} (ha : b.gate.active = some a)
    (he : b.gate.list[a.index]? = some e) (hp : ¬ (b.gate.withdrawPending = true ∨ b.gate.resetPending = true)) :
    tableReadDone 0 b = skipStep a e b := by
  simp only [tableReadDone, activeEntry_some ha he, if_neg (mt ending_iff.mp hp), if_true]

/-- The step in hand waits with its lamp time for a READY film and room (R56, R59). -/
def stepWaiting (a : ActiveOrder) (w : Word) (b : Block) : Block :=
  { b with expo := { b.expo with lampTime := w }, gate := { b.gate with active := some { a with phase := .waiting } } }

theorem tableReadDone_lampTime {b : Block} {a : ActiveOrder} {e : Entry} {w : Word} (ha : b.gate.active = some a)
    (he : b.gate.list[a.index]? = some e) (hp : ¬ (b.gate.withdrawPending = true ∨ b.gate.resetPending = true))
    (hw : w ≠ 0) : tableReadDone w b = tryExpose (stepWaiting a w b) := by
  simp only [tableReadDone, activeEntry_some ha he, if_neg (mt ending_iff.mp hp), if_neg hw, withActive, setExpo_gate, ha,
    Option.map_some]
  rfl

theorem hasRoom_iff {b : Block} : b.hasRoom = true ↔ b.charges.queue.length + b.charges.reserved < 8 := decide_eq_true_iff

theorem stepWaits_stepWaiting (a : ActiveOrder) (w : Word) (b : Block) : stepWaits (stepWaiting a w b) = true := by
  simp [stepWaits, stepWaiting]

/-- A waiting exposure begins with a place reserved for its posting, its time stamped and the film EXPOSING (R34, R59, R93). -/
theorem tryExpose_begins {b : Block} (hfilm : b.film.st = .ready)
    (hroom : b.charges.queue.length + b.charges.reserved < 8) (a : ActiveOrder) (w : Word) :
    tryExpose (stepWaiting a w b) = { b with
      expo := { b.expo with lampTime := w, stamp := b.stand.clock, lamp := .expose },
      charges := { b.charges with reserved := b.charges.reserved + 1 },
      film := { b.film with st := .exposing },
      gate := { b.gate with active := some { a with phase := .exposing } } } := by
  rw [tryExpose, if_pos ⟨stepWaits_stepWaiting a w b, hfilm, hasRoom_iff.mpr hroom⟩]
  rfl

theorem tryExpose_waits {b : Block} (h : ¬ (b.film.st = .ready ∧ b.hasRoom = true)) : tryExpose b = b :=
  if_neg fun hall => h hall.2

/-- Settles O38: a mark sets the step aside; else the word read is 0 or a lamp time, for which the film and the room decide. -/
theorem tableReadSkipsOrExposes : Obligations.TableReadSkipsOrExposes := by
  intro a e w v s hport hlast howner hgot ha he b st price pending room
  have hexec : exec .exposureTableReadComplete s = .next ⟨s.pending, settle (tableReadDone w b)⟩ :=
    exec_exposureTableReadComplete hport hlast howner hgot
  rw [hexec]
  refine ⟨fun hp => ?marked, fun hp hw => ?skipped, fun hp hw hroom => ?exposes, fun hp hw hroom => ?waits⟩
  case marked => rw [tableReadDone_pending (b := b) ha he hp]
  case skipped =>
    rw [hw, tableReadDone_zero (b := b) ha he hp]
    rfl
  case exposes =>
    obtain ⟨hready, hplaces⟩ := hroom
    rw [tableReadDone_lampTime (b := b) ha he hp hw, tryExpose_begins (b := b) hready hplaces]
  case waits =>
    have hnot : ¬ (b.film.st = .ready ∧ b.hasRoom = true) := mt (And.imp_right hasRoom_iff.mp) hroom
    rw [tableReadDone_lampTime (b := b) ha he hp hw, tryExpose_waits (b := stepWaiting a w b) hnot]
    rfl

end Sys2Proof.Machine
end


section
/-! The Film Transport: the pulses of an advance, the limits counted from the stand clock, LOAD, UNLOAD and RETRY, and the
statements of chapter 4. -/

namespace Sys2Proof.Machine

/-! ## Motions -/

theorem advances_iff {f : Film} : f.advances = true ↔ f.st = .leader ∨ f.st = .advancing := by simp [Film.advances]

theorem advanceMotor_iff (f : Film) : f.advanceMotor = true ↔ f.st = .leader ∨ f.st = .advancing := by
  simp [Film.advanceMotor]

theorem rewindMotor_iff (f : Film) : f.rewindMotor = true ↔ f.st = .rewinding := decide_eq_true_iff

theorem moves_of_advances {f : Film} (h : f.advances = true) : f.moves = true := by simp [Film.moves, h]

theorem moves_of_rewinding {f : Film} (h : f.st = .rewinding) : f.moves = true := by simp [Film.moves, h]

theorem filmSettles_eq (st : FilmState) (m : Motion) (b : Block) : filmSettles st m b = { b with
    film := { b.film with st := st, interrupted := m, running := false },
    stand := { b.stand with flags := b.stand.flags ||| 0x04 } } := rfl

/-- A block whose film is already in the state in which the advance runs: only what the advance starts with is new (R68). -/
theorem beginAdvance_same {st : FilmState} {b : Block} (h : b.film.st = st) : beginAdvance st b = { b with
    film := { b.film with
      pulses := 0, elapsed := 0, pulsesPerFrame := Settings.pulses b.stand.latched,
      limit := Settings.advanceLimit b.stand.latched } } := by
  subst h
  rfl

theorem serviceAdvance_iff {b : Block} : serviceAdvance b = true ↔ ∃ a, b.gate.active = some a ∧ a.phase = .advancing := by
  simp [serviceAdvance, Option.any_eq_true]

/-! ## A perforation pulse -/

theorem exec_perforationPulse (s : State) : exec .perforationPulse s = .next ⟨s.pending, settle (pulse s.part)⟩ := rfl

/-- One more pulse of the advance in progress (R68). -/
def pulseCounted (b : Block) : Block := { b with film := { b.film with pulses := b.film.pulses + 1 } }

theorem pulse_still {b : Block} (h : ¬ (b.film.st = .leader ∨ b.film.st = .advancing)) : pulse b = b :=
  if_neg (mt advances_iff.mp h)

theorem pulse_counts {b : Block} (h : b.film.st = .leader ∨ b.film.st = .advancing)
    (hn : b.film.pulses + 1 ≠ b.film.pulsesPerFrame) : pulse b = pulseCounted b :=
  (if_pos (advances_iff.mpr h)).trans (if_neg hn)

theorem pulse_leaderAdvance {b : Block} (h : b.film.st = .leader) (hn : b.film.pulses + 1 = b.film.pulsesPerFrame) :
    pulse b = leaderDone (pulseCounted b) :=
  (if_pos (advances_iff.mpr (.inl h))).trans ((if_pos hn).trans (if_pos h))

theorem pulse_frameAdvance {b : Block} (h : b.film.st = .advancing) (hn : b.film.pulses + 1 = b.film.pulsesPerFrame) :
    pulse b = advanceDone (pulseCounted b) :=
  (if_pos (advances_iff.mpr (.inr h))).trans ((if_pos hn).trans (if_neg (by simp [h])))

/-- The last leader advance settles the film READY (R67). -/
theorem leaderDone_last {b : Block} (h : b.film.leaderLeft ≤ 1) :
    leaderDone b = filmSettles .ready .none { b with film := { b.film with leaderLeft := 0 } } := by
  have hzero : b.film.leaderLeft - 1 = 0 := Nat.sub_eq_zero_of_le h
  rw [← hzero]
  exact if_pos hzero

/-- The next leader advance begins with the settings latched now (R67, R68). -/
theorem leaderDone_next {b : Block} (hst : b.film.st = .leader) (h : 2 ≤ b.film.leaderLeft) : leaderDone b = { b with
    film := { b.film with
      pulses := 0, leaderLeft := b.film.leaderLeft - 1, elapsed := 0,
      pulsesPerFrame := Settings.pulses b.stand.latched, limit := Settings.advanceLimit b.stand.latched } } := by
  have hleft : b.film.leaderLeft - 1 ≠ 0 := by omega
  rw [leaderDone, setFilm_film, if_neg hleft]
  exact beginAdvance_same (b := b.setFilm _) hst

/-- An interrupted advance that RETRY repeated settles the film READY (R72). -/
theorem advanceDone_retried {b : Block} (h : b.film.interrupted ≠ .none) :
    advanceDone b = filmSettles .ready .none b :=
  if_pos h

theorem advanceDone_service {b : Block} (hi : b.film.interrupted = .none)
    (h : ∃ a, b.gate.active = some a ∧ a.phase = .advancing) :
    advanceDone b = stepEnded { b with film := { b.film with st := .ready } } :=
  (if_neg (not_not_intro hi)).trans (if_pos (serviceAdvance_iff.mpr h))

theorem advanceDone_other {b : Block} (hi : b.film.interrupted = .none)
    (h : ¬ ∃ a, b.gate.active = some a ∧ a.phase = .advancing) :
    advanceDone b = { b with film := { b.film with st := .ready } } :=
  (if_neg (not_not_intro hi)).trans (if_neg (mt serviceAdvance_iff.mp h))

/-- Settles O40: what runs, whether the pulse is its last, and what the completed advance was for. -/
theorem pulseAdvancesFilm : Obligations.PulseAdvancesFilm := by
  refine ⟨fun f => ⟨advanceMotor_iff f, rewindMotor_iff f⟩, fun s => ?_⟩
  intro f st n advances notice service answers
  simp only [answers, exec_perforationPulse]
  refine ⟨fun h => ?still, fun h hn => ?counts, fun h hn hl => ?lastLeader, fun h hn hl => ?nextLeader,
    fun h hn hi => ?retried, fun h hn hi hs => ?service, fun h hn hi hs => ?other⟩
  case still => rw [pulse_still h]
  case counts => rw [pulse_counts h hn]; rfl
  case lastLeader => rw [pulse_leaderAdvance h hn, leaderDone_last (b := pulseCounted s.part) hl]; rfl
  case nextLeader => rw [pulse_leaderAdvance h hn, leaderDone_next (b := pulseCounted s.part) h hl]; rfl
  case retried => rw [pulse_frameAdvance h hn, advanceDone_retried (b := pulseCounted s.part) hi]; rfl
  case service => rw [pulse_frameAdvance h hn, advanceDone_service (b := pulseCounted s.part) hi hs]; rfl
  case other => rw [pulse_frameAdvance h hn, advanceDone_other (b := pulseCounted s.part) hi hs]; rfl

/-! ## The limits counted from the stand clock -/

/-- The timeout of a film motion is the increment at which its limit is counted out (log 9). -/
def filmTimeout (runs : Bool) (b : Block) : Block := if runs && b.film.tick.limitOut then clockTick b else b

theorem exec_advanceTimeout (s : State) :
    exec .advanceTimeout s = .next ⟨s.pending, filmTimeout s.part.film.advances s.part⟩ := rfl

theorem exec_rewindTimeout (s : State) :
    exec .rewindTimeout s = .next ⟨s.pending, filmTimeout (decide (s.part.film.st = .rewinding)) s.part⟩ := rfl

theorem exec_standClockIncrement (s : State) :
    exec .standClockIncrement s = .next ⟨s.pending, clockTick s.part⟩ := rfl

@[simp] theorem tick_st (f : Film) : f.tick.st = f.st := by
  unfold Film.tick
  split <;> rfl

theorem tick_limitOut_iff {f : Film} (h : f.moves = true) : f.tick.limitOut = true ↔ f.limit ≤ f.elapsed + 1 := by
  simp only [Film.tick, if_pos h, Film.limitOut, decide_eq_true_iff]
  omega

theorem countTick_film (b : Block) : (countTick b).film = b.film.tick := rfl

theorem clockTick_inReset {b : Block} (h : b.inReset = true) : clockTick b = b := if_pos h

theorem filmTimeout_ticks {b : Block} {runs : Bool} (hruns : runs = true) (hm : b.film.moves = true)
    (hout : b.film.limit ≤ b.film.elapsed + 1) : filmTimeout runs b = clockTick b :=
  if_pos (by simp [hruns, tick_limitOut_iff hm, hout])

/-- In reset, with the motion not running or before its limit, its timeout does not come about (logs 1, 9). -/
theorem filmTimeout_still {b : Block} {runs : Bool} (hm : runs = true → b.film.moves = true)
    (h : b.inReset = true ∨ runs = false ∨ ¬ b.film.limit ≤ b.film.elapsed + 1) : filmTimeout runs b = b := by
  unfold filmTimeout
  split
  next hc =>
    obtain ⟨hruns, hlimit⟩ := Bool.and_eq_true_iff.mp hc
    have hout := (tick_limitOut_iff (hm hruns)).mp hlimit
    have hreset : b.inReset = true := h.resolve_right (by simp [hruns, hout])
    exact clockTick_inReset hreset
  next => rfl

/-- The increment at which a running film limit is counted out (R69, R75, log 9). -/
theorem clockTick_limitOut {b : Block} (hr : b.inReset = false) (hm : b.film.moves = true)
    (hout : b.film.limit ≤ b.film.elapsed + 1) : clockTick b = settle (runOut (countTick b)) := by
  have hfilm : (countTick b).film.moves = true := by
    simpa only [countTick_film, Film.moves, Film.advances, tick_st] using hm
  have hlimit : (countTick b).film.limitOut = true := (tick_limitOut_iff hm).mpr hout
  rw [clockTick, if_neg (by simp [hr]), if_pos (by simp [Block.limitOut, hfilm, hlimit])]

/-- The film of an advance whose limit is counted out (R69, R71). -/
def advanceJammed (b : Block) : Block :=
  filmSettles .jammed (if b.film.st = .leader then .leaderAdvance else .frameAdvance) b

theorem rewindTimeoutOp_other {b : Block} (h : b.film.st ≠ .rewinding) : rewindTimeoutOp b = b :=
  if_neg fun hall => h hall.1

theorem advanceTimeoutOp_other {b : Block} (h : ¬ (b.film.st = .leader ∨ b.film.st = .advancing)) :
    advanceTimeoutOp b = b :=
  if_neg fun hall => h (advances_iff.mp hall.1)

/-- The film is JAMMED before the rewind limit is looked at, so only the reply limit is left to run out (log 10). -/
theorem runOut_advance {b : Block} (h : b.film.st = .leader ∨ b.film.st = .advancing) (hout : b.film.limitOut = true) :
    runOut b = replyTimeoutOp (jamCycle (advanceJammed b)) := by
  have hst : (jamCycle (advanceJammed b)).film.st ≠ .rewinding := by simp [advanceJammed, filmSettles_eq]
  have hjam : advanceTimeoutOp b = jamCycle (advanceJammed b) := if_pos ⟨advances_iff.mpr h, hout⟩
  rw [runOut, hjam, rewindTimeoutOp_other hst]

theorem runOut_rewind {b : Block} (h : b.film.st = .rewinding) (hout : b.film.limitOut = true) :
    runOut b = replyTimeoutOp (filmSettles .jammed .rewind b) := by
  have hrewind : rewindTimeoutOp b = filmSettles .jammed .rewind b := if_pos ⟨h, hout⟩
  rw [runOut, advanceTimeoutOp_other (by simp [h]), hrewind]

theorem replyTimeoutOp_runs_on {b : Block} (h : b.link.st ≠ .awaiting ∨ b.link.elapsed < b.link.replyLimit) :
    replyTimeoutOp b = b :=
  if_neg (by simpa [Link.limitOut, imp_iff_not_or] using h)

/-! ## The advance limit -/

/-- The increment at which an advance's limit is counted out. -/
theorem clockTick_advanceOut {b : Block} (hr : b.inReset = false) (h : b.film.st = .leader ∨ b.film.st = .advancing)
    (hout : b.film.limit ≤ b.film.elapsed + 1) :
    clockTick b = settle (replyTimeoutOp (jamCycle (advanceJammed (countTick b)))) := by
  have hm : b.film.moves = true := moves_of_advances (advances_iff.mpr h)
  rw [clockTick_limitOut hr hm hout,
    runOut_advance (b := countTick b) (by simpa [countTick_film] using h) ((tick_limitOut_iff hm).mpr hout)]

theorem jamCycle_other {b : Block} (h : ¬ ∃ a, b.gate.active = some a ∧ a.phase = .advancing) : jamCycle b = b :=
  if_neg (mt serviceAdvance_iff.mp h)

theorem jamCycle_pending {b : Block} (h : ∃ a, b.gate.active = some a ∧ a.phase = .advancing)
    (hp : b.gate.withdrawPending = true ∨ b.gate.resetPending = true) : jamCycle b = endPending b :=
  (if_pos (serviceAdvance_iff.mpr h)).trans (if_pos (ending_iff.mpr hp))

theorem jamCycle_unmarked {b : Block} (h : ∃ a, b.gate.active = some a ∧ a.phase = .advancing)
    (hp : ¬ (b.gate.withdrawPending = true ∨ b.gate.resetPending = true)) :
    jamCycle b = endCancelled .jam .jammed b :=
  (if_pos (serviceAdvance_iff.mpr h)).trans (if_neg (mt ending_iff.mp hp))

/-- Settles O41: the timeout is the increment at the limit; the film jams, and the cycle of a service advance ends. -/
theorem advanceTimeoutJams : Obligations.AdvanceTimeoutJams := by
  refine ⟨fun s => ?_, fun b => replyTimeoutOp_runs_on⟩
  intro f c advances out service pending b answers
  have hb : advanceJammed c = b := by simp only [advanceJammed, filmSettles_eq, c, countTick_film, tick_st]; rfl
  have hanswers (hr : s.part.inReset = false) (h : advances) (hout : out) : answers (jamCycle b) := by
    have hadv : s.part.film.advances = true := advances_iff.mpr h
    have htick : clockTick s.part = settle (replyTimeoutOp (jamCycle b)) := hb ▸ clockTick_advanceOut hr h hout
    simp only [answers, exec_advanceTimeout, exec_standClockIncrement, htick, and_self,
      filmTimeout_ticks hadv (moves_of_advances hadv) hout]
  refine ⟨fun h => ?still, fun hr h hout hs => ?other, fun hr h hout hs hp => ?marked,
    fun hr h hout hs hp => ?unmarked⟩
  case still =>
    have hstill : s.part.inReset = true ∨ s.part.film.advances = false ∨ ¬ out :=
      h.imp_right (Or.imp_left fun hno => Bool.eq_false_iff.mpr (mt advances_iff.mp hno))
    rw [exec_advanceTimeout, filmTimeout_still moves_of_advances hstill]
  case other => exact jamCycle_other (b := b) hs ▸ hanswers hr h hout
  case marked => exact jamCycle_pending (b := b) hs hp ▸ hanswers hr h hout
  case unmarked => exact jamCycle_unmarked (b := b) hs hp ▸ hanswers hr h hout

/-! ## LOAD -/

theorem exec_load {s : State} (h : s.part.reached) (len : BitVec 8) :
    exec (.load len) s = .next ⟨s.pending, settle (loadOp len.toNat s.part)⟩ := by
  have hexec : exec (.load len) s = execLoad len s := rfl
  simp only [hexec, execLoad, event, writeAt_reached h]

theorem gateQuiet_iff {b : Block} : b.gateQuiet = true ↔ b.gate.st = .empty ∨ b.gate.st = .done := by
  simp [Block.gateQuiet]

theorem freePage_some_iff {b : Block} {p : Fin 4} : freePage b = some p ↔
    b.pages.pages[p].st = .free ∧ ∀ q : Fin 4, q < p → b.pages.pages[q].st ≠ .free := by
  rw [freePage, ← Fin.find?_eq_find?_finRange, Fin.find?_eq_some_iff]
  simp

theorem loadPage_some_iff {b : Block} {n : Nat} {p : Fin 4} : loadPage b n = some p ↔
    b.film.st = .empty ∧ 12 ≤ n ∧ n ≤ 72 ∧ (b.gate.st = .empty ∨ b.gate.st = .done)
      ∧ b.pages.pages[p].st = .free ∧ ∀ q : Fin 4, q < p → b.pages.pages[q].st ≠ .free := by
  rw [loadPage, Option.ite_none_right_eq_some, freePage_some_iff, gateQuiet_iff]
  simp only [and_assoc]

theorem issue_issue (o o' : Owner) (w w' : Work) (b : Block) : issue o' w' (issue o w b) = { b with
    path := { b.path with partList := b.path.partList ++ [⟨o, w, []⟩, ⟨o', w', []⟩] } } := by
  simp only [issue, setPath_path, List.append_assoc]
  rfl

/-- A LOAD's page, film and accesses, before its leader begins (R66, R77, R78). -/
def rollLoaded (p : Fin 4) (n : Nat) (b : Block) : Block :=
  { b with
    pages := { b.pages with
      rollCounter := nextRoll b.pages.rollCounter,
      pages := b.pages.pages.set p
        ⟨.current, nextRoll b.pages.rollCounter, n, 0, b.stand.day, 0, Vector.replicate 72 Frame.start⟩ },
    path := { b.path with partList := b.path.partList ++
      [⟨.pageWrites, .words ((loadHeader p (nextRoll b.pages.rollCounter) n b.stand.day).map
          fun x => .write (addrOf b.path.straps x.1) x.2), []⟩,
        ⟨.pageWrites, .clear p 0, []⟩] },
    film := { b.film with length := n, used := 0, page := some p, lastCommand := .load, running := true } }

theorem loadOp_taken {b : Block} {n : Nat} {p : Fin 4} (h : loadPage b n = some p) :
    loadOp n b = beginLeader (rollLoaded p n b) := by
  simp only [loadOp, h, takePage, issuePage, issue_issue]
  rfl

theorem loadOp_refused {b : Block} {n : Nat} (h : ∀ p, loadPage b n ≠ some p) : loadOp n b = refuseAt (.stand 22) b := by
  simp only [loadOp, Option.eq_none_iff_forall_ne_some.mpr h]

theorem beginLeader_none {b : Block} (h : Settings.leader b.stand.latched = 0) : beginLeader b =
    filmSettles .ready b.film.interrupted
      { b with film := { b.film with leaderLeft := Settings.leader b.stand.latched } } :=
  if_pos h

theorem beginLeader_some {b : Block} (h : Settings.leader b.stand.latched ≠ 0) : beginLeader b =
    beginAdvance .leader { b with film := { b.film with leaderLeft := Settings.leader b.stand.latched } } :=
  if_neg h

/-- Settles O42: a page is taken or the LOAD is refused, and a taken roll has a leader or none. -/
theorem loadTakesPage : Obligations.LoadTakesPage := by
  intro len s hreached n f st accepted roll head b answers
  simp only [answers, exec_load hreached]
  refine ⟨fun p h hl => ?none, fun p h hl => ?leader, fun h => ?refused⟩
  case none =>
    rw [loadOp_taken (loadPage_some_iff.mpr h), beginLeader_none (b := rollLoaded p len.toNat s.part) hl]
    rfl
  case leader =>
    rw [loadOp_taken (loadPage_some_iff.mpr h), beginLeader_some (b := rollLoaded p len.toNat s.part) hl]
    rfl
  case refused =>
    rw [loadOp_refused fun p hp => h p (loadPage_some_iff.mp hp)]
    rfl

/-! ## The rewind and its completion -/

theorem handOnPage_none {b : Block} (h : b.film.page = none) : handOnPage b = b := by
  simp only [handOnPage, h]

theorem handOnPage_some {b : Block} {p : Fin 4} (h : b.film.page = some p) :
    handOnPage b = setPageState p (if b.film.used = 0 then .free else .exposed) b := by
  simp only [handOnPage, h]

theorem completeRewind_none {b : Block} (h : b.film.page = none) : completeRewind b = filmSettles .empty .none
    { b with film := { b.film with length := 0, used := 0, page := none, leaderLeft := 0 } } := by
  rw [completeRewind, handOnPage_none h]
  rfl

theorem completeRewind_some {b : Block} {p : Fin 4} (h : b.film.page = some p) :
    completeRewind b = filmSettles .empty .none
      { setPageState p (if b.film.used = 0 then .free else .exposed) b with
        film := { b.film with length := 0, used := 0, page := none, leaderLeft := 0 } } := by
  rw [completeRewind, handOnPage_some h]
  rfl

/-- A rewind begun by a film command; it completes at once when the switch reads closed (R75). -/
def rewindFrom (c : FilmCommand) (m : Motion) (b : Block) : Block :=
  let b' : Block := { b with film := { b.film with
    st := .rewinding, lastCommand := c, running := true, interrupted := m,
    limit := Settings.rewindLimit b.stand.latched, elapsed := 0 } }
  if b.film.switchClosed then completeRewind b' else b'

theorem switchClosing_rewinding {b : Block} (h : b.film.st = .rewinding) :
    switchClosing b = completeRewind (senseSwitch true b) :=
  if_pos h

theorem switchClosing_other {b : Block} (h : b.film.st ≠ .rewinding) : switchClosing b = senseSwitch true b :=
  if_neg h

theorem exec_endOfFilmSwitchClosing (s : State) :
    exec .endOfFilmSwitchClosing s = .next ⟨s.pending, settle (switchClosing s.part)⟩ := rfl

/-- The increment at which a rewind's limit is counted out. -/
theorem clockTick_rewindOut {b : Block} (hr : b.inReset = false) (h : b.film.st = .rewinding)
    (hout : b.film.limit ≤ b.film.elapsed + 1) :
    clockTick b = settle (replyTimeoutOp (filmSettles .jammed .rewind (countTick b))) := by
  have hm : b.film.moves = true := moves_of_rewinding h
  rw [clockTick_limitOut hr hm hout,
    runOut_rewind (b := countTick b) (by simpa [countTick_film] using h) ((tick_limitOut_iff hm).mpr hout)]

/-! ## UNLOAD and RETRY -/

theorem exec_unload {s : State} (h : s.part.reached) (closed : Bool) :
    exec (.unload closed) s = .next ⟨s.pending, settle (unloadOp (senseSwitch closed s.part))⟩ := by
  have hexec : exec (.unload closed) s = execUnload closed s := rfl
  simp only [hexec, execUnload, event, writeAt_reached (b := senseSwitch closed s.part) h]

theorem exec_retry {s : State} (h : s.part.reached) (closed : Bool) :
    exec (.retry closed) s = .next ⟨s.pending, settle (retryOp (senseSwitch closed s.part))⟩ := by
  have hexec : exec (.retry closed) s = execRetry closed s := rfl
  simp only [hexec, execRetry, event, writeAt_reached (b := senseSwitch closed s.part) h]

theorem unloadAccepted_iff {b : Block} : unloadAccepted b = true ↔ b.film.st = .empty
    ∨ ((b.film.st = .ready ∨ b.film.st = .ended ∨ b.film.st = .jammed)
      ∧ (b.gate.st = .empty ∨ b.gate.st = .done ∨ b.gate.st = .metering)) := by
  cases h : b.film.st <;> simp [unloadAccepted, h, gateQuiet_iff, or_assoc]

/-- An UNLOAD in JAMMED makes the rewind the interrupted motion (log 14). -/
theorem unloadOp_accepted {b : Block} (h : unloadAccepted b = true) :
    unloadOp b = rewindFrom .unload (if b.film.st = .jammed then .rewind else b.film.interrupted) b := by
  rw [unloadOp, if_pos h]
  split <;> rfl

theorem unloadOp_refused {b : Block} (h : ¬ unloadAccepted b = true) : unloadOp b = refuseAt (.stand 22) b := if_neg h

theorem retryOp_leaderAdvance {b : Block} (hj : b.film.st = .jammed) (hi : b.film.interrupted = .leaderAdvance) :
    retryOp b = beginAdvance .leader (filmCommand .retry b) := by
  simp only [retryOp, if_pos hj, hi]

theorem retryOp_frameAdvance {b : Block} (hj : b.film.st = .jammed) (hi : b.film.interrupted = .frameAdvance) :
    retryOp b = beginAdvance .advancing (filmCommand .retry b) := by
  simp only [retryOp, if_pos hj, hi]

theorem retryOp_rewind {b : Block} (hj : b.film.st = .jammed) (hi : b.film.interrupted = .rewind) :
    retryOp b = rewindFrom .retry .rewind b := by
  have hbegin : retryOp b = beginRewind (filmCommand .retry b) := by simp only [retryOp, if_pos hj, hi]
  rw [hbegin, ← hi]
  rfl

theorem retryOp_refused {b : Block} (h : b.film.st ≠ .jammed) : retryOp b = refuseAt (.stand 22) b := if_neg h

/-- Settles O43: the commands by what they meet, the events of the rewind, and its completion by what the page holds. -/
theorem filmRewindsAndRetries : Obligations.FilmRewindsAndRetries := by
  refine ⟨fun closed s hreached => ?commands, fun s => ?events, fun b => ?completion⟩
  case commands =>
    intro f st b accepted rewind begun refused repeated
    have hsense : senseSwitch closed s.part = b := rfl
    simp only [exec_unload hreached, exec_retry hreached, hsense]
    refine ⟨fun h => ?taken, fun h => ?unloadRefused, fun hj hi => ?leader, fun hj hi => ?frame, fun hj hi => ?rewind,
      fun hj => ?retryRefused⟩
    case taken => rw [unloadOp_accepted (b := b) (unloadAccepted_iff.mpr h)]; rfl
    case unloadRefused => rw [unloadOp_refused (b := b) (mt unloadAccepted_iff.mp h)]; rfl
    case leader => rw [retryOp_leaderAdvance (b := b) hj hi]; rfl
    case frame => rw [retryOp_frameAdvance (b := b) hj hi]; rfl
    case rewind => rw [retryOp_rewind (b := b) hj hi]; rfl
    case retryRefused => rw [retryOp_refused (b := b) hj]; rfl
  case events =>
    intro b c out jammed
    refine ⟨fun h => ?closes, fun h => ?closesAtRest, fun hr h hout => ?jams, fun h => ?still⟩
    case closes => rw [exec_endOfFilmSwitchClosing, switchClosing_rewinding h]; rfl
    case closesAtRest => rw [exec_endOfFilmSwitchClosing, switchClosing_other h]; rfl
    case jams =>
      have htick : clockTick s.part = settle (replyTimeoutOp jammed) := clockTick_rewindOut hr h hout
      rw [exec_rewindTimeout, exec_standClockIncrement,
        filmTimeout_ticks (decide_eq_true h) (moves_of_rewinding h) hout, htick]
      exact ⟨rfl, rfl⟩
    case still =>
      have hstill : s.part.inReset = true ∨ decide (s.part.film.st = .rewinding) = false ∨ ¬ out :=
        h.imp_right (Or.imp_left decide_eq_false)
      rw [exec_rewindTimeout, filmTimeout_still (fun hm => moves_of_rewinding (of_decide_eq_true hm)) hstill]
  case completion =>
    exact ⟨fun h => completeRewind_none h, fun p h => completeRewind_some h⟩

end Sys2Proof.Machine
end

section
/-! The places of the posting queue (R92, R93): no event exceeds them, and an exposure in progress has its reservation. -/

namespace Sys2Proof.Machine

/-! ## The places of the posting queue -/

/-- The invariant of `PostingsFit`, on the block alone (R92, R93). -/
def Block.fits (b : Block) : Prop :=
  b.charges.queue.length + b.charges.reserved ≤ 8 ∧ (b.exposing → 1 ≤ b.charges.reserved)

theorem postingsFit_iff {s : State} : PostingsFit s ↔ s.part.fits := Iff.rfl

theorem exposing_congr {b c : Block} (h : c.gate.active = b.gate.active) : c.exposing ↔ b.exposing := by
  simp only [Block.exposing, h]

theorem not_exposing_of_none {b : Block} (h : b.gate.active = none) : ¬ b.exposing := by
  simp [Block.exposing, h]

theorem not_exposing_of_phase {b : Block} {a : ActiveOrder} (h : b.gate.active = some a) (hp : a.phase ≠ .exposing) :
    ¬ b.exposing := by
  simp [Block.exposing, h, hp]

/-- Queue and reservations as before, and no exposure begun: the places still fit. -/
theorem fits_of_parts {b c : Block} (hq : c.charges.queue = b.charges.queue) (hr : c.charges.reserved = b.charges.reserved)
    (hx : c.exposing → b.exposing) (h : b.fits) : c.fits := by
  obtain ⟨hplaces, hreserved⟩ := h
  rw [Block.fits, hq, hr]
  exact ⟨hplaces, fun hc => hreserved (hx hc)⟩

theorem fits_of_charges {b c : Block} (hx : c.exposing → b.exposing) (h : b.fits) (hc : c.charges = b.charges) : c.fits :=
  fits_of_parts (by rw [hc]) (by rw [hc]) hx h

/-- An operation that leaves the Charge Unit and the gate keeps the places. -/
theorem fits_of_frame {b c : Block} (h : b.fits) (hf : c.charges = b.charges ∧ c.gate = b.gate) : c.fits :=
  fits_of_charges (exposing_congr (by rw [hf.2])).mp h hf.1

/-! ## The end of an event and the bus -/

theorem nvTake_fits {b : Block} (h : b.fits) : (nvTake b).fits :=
  fits_of_parts (by simp) (by simp) (exposing_congr (by simp)).mp h

theorem arbitrate_fits {b : Block} (h : b.fits) : (arbitrate b).fits := fits_of_frame h (by simp)

theorem settle_fits {b : Block} (h : b.fits) : (settle b).fits := arbitrate_fits (nvTake_fits h)

theorem onBus_fits {a : Access} {f : Block → Block} {b : Block} (hf : (f b).fits) (h : b.fits) : (onBus a f b).fits := by
  rcases onBus_cases a f b with e | e | e <;> rw [e]
  · exact h
  · exact fits_of_frame h (by simp)
  · exact hf

theorem portFreed_fits {b : Block} (h : b.fits) : (portFreed b).fits := by
  unfold portFreed
  split
  · split
    · exact nvTake_fits (fits_of_frame h (by simp))
    · exact fits_of_frame h (by simp)
  · exact h

theorem onReady_fits {c : Option Claim} {f : Block → Block} (hf : ∀ b : Block, b.fits → (f b).fits)
    {b : Block} (h : b.fits) :
    (onReady c f b).fits := by
  unfold onReady
  split
  · exact h
  · exact settle_fits (hf _ (fits_of_frame h (by simp)))

/-! ## The active order copy through the gate's operations -/

@[simp] theorem setList_active (l : List Entry) (b : Block) : (setList l b).gate.active = b.gate.active := rfl

@[simp] theorem withEntry_active (i : Nat) (f : Entry → Entry) (b : Block) :
    (withEntry i f b).gate.active = b.gate.active := rfl

@[simp] theorem withOutcome_active (f : OutcomeRecord → OutcomeRecord) (b : Block) :
    (withOutcome f b).gate.active = b.gate.active := rfl

@[simp] theorem skipEntry_active (i : Nat) (reason : Reason) (b : Block) :
    (skipEntry i reason b).gate.active = b.gate.active := rfl

@[simp] theorem dropEntry_active (i : Nat) (b : Block) : (dropEntry i b).gate.active = b.gate.active := rfl

@[simp] theorem completeSoftReset_active (b : Block) : (completeSoftReset b).gate.active = b.gate.active := by
  rw [completeSoftReset_eq]

@[simp] theorem standAfterCycle_active (b : Block) : (standAfterCycle b).gate.active = b.gate.active := by
  unfold standAfterCycle
  (repeat' split) <;> simp

@[simp] theorem endCycle_active (oc : OutcomeCode) (b : Block) : (endCycle oc b).gate.active = none := by
  simp [endCycle]

@[simp] theorem endCancelled_active (reason : Reason) (oc : OutcomeCode) (b : Block) :
    (endCancelled reason oc b).gate.active = none := endCycle_active ..

@[simp] theorem endPending_active (b : Block) : (endPending b).gate.active = none := by
  unfold endPending
  split <;> simp

@[simp] theorem visit_active (i : Nat) (e : Entry) (b : Block) : (visit i e b).1.gate.active = b.gate.active := by
  unfold visit
  dsimp only
  split
  · simp
  · split
    · simp
    · split
      · simp [rollShort]
      · simp [awaitAccount]

@[simp] theorem judgeEntry_active (i : Nat) (e : Entry) (r : List Word) (b : Block) :
    (judgeEntry i e r b).gate.active = b.gate.active := by
  unfold judgeEntry
  split <;> simp

@[simp] theorem deactivateEntry_active (i : Nat) (e : Entry) (b : Block) :
    (deactivateEntry i e b).gate.active = b.gate.active := by
  unfold deactivateEntry
  dsimp only
  split <;> simp

@[simp] theorem deactivate_active (n : Fin 24) (b : Block) : (deactivate n b).gate.active = b.gate.active := by
  unfold deactivate
  dsimp only
  (repeat' split) <;> simp

@[simp] theorem passOver_active (b : Block) (n : Fin 24) : (passOver b n).gate.active = b.gate.active := by
  simp [passOver]

/-! ## No exposure is begun by the steps, the planning and the endings of a cycle -/

/-- A step that begins is at its exposure table read. -/
theorem beginStep_not_exposing {b : Block} {a : ActiveOrder} {e : Entry} (ha : b.gate.active = some a)
    (he : b.gate.list[a.index]? = some e) : ¬ (beginStep b).exposing := by
  rw [beginStep_eq ha he]
  exact not_exposing_of_phase rfl (by simp)

theorem activeEntry_eq_some {g : Gate} {a : ActiveOrder} {e : Entry} (h : g.activeEntry = some (a, e)) :
    g.active = some a ∧ g.list[a.index]? = some e := by
  unfold Gate.activeEntry at h
  split at h
  · cases h
  · next a' ha =>
    obtain ⟨e', he, hpair⟩ := Option.map_eq_some_iff.mp h
    cases hpair
    exact ⟨ha, he⟩

theorem beginStep_exposing {b : Block} (h : (beginStep b).exposing) : b.exposing := by
  cases hx : b.gate.activeEntry with
  | none => simpa only [beginStep, hx] using h
  | some x =>
    obtain ⟨ha, he⟩ := activeEntry_eq_some hx
    exact absurd h (beginStep_not_exposing ha he)

theorem endPending_not_exposing (b : Block) : ¬ (endPending b).exposing := not_exposing_of_none (endPending_active b)

theorem resultLoaded_exposing {r : Vector Word 9} {b : Block} (h : (resultLoaded r b).exposing) : b.exposing := by
  unfold resultLoaded at h
  dsimp only at h
  split at h
  · exact absurd h (endPending_not_exposing _)
  · exact beginStep_exposing (b := b.setGate { b.gate with result := some r }) h

theorem loadResult_exposing {n : Fin 24} {b : Block} (h : (loadResult n b).exposing) : b.exposing := by
  unfold loadResult at h
  dsimp only at h
  split at h
  · exact (exposing_congr (by simp)).mp h
  · split at h
    · exact resultLoaded_exposing h
    · exact (exposing_congr (by simp)).mp h

theorem moveOut_exposing {b : Block} (h : (moveOut b).exposing) : b.exposing := by
  unfold moveOut at h
  split at h
  · exact absurd h (not_exposing_of_none (endCycle_active _ _))
  · split at h
    · exact h
    · have hloading := loadResult_exposing h
      exact absurd hloading (not_exposing_of_phase rfl (by simp [activeOf]))

theorem visitAll_exposing {l : List Nat} {b : Block} (h : (visitAll l b).exposing) : b.exposing := by
  induction l generalizing b with
  | nil => exact moveOut_exposing h
  | cons i l ih =>
    unfold visitAll at h
    split at h
    · exact ih h
    · split at h
      · exact (exposing_congr (visit_active _ _ _)).mp h
      · exact (exposing_congr (visit_active _ _ _)).mp (ih h)

theorem visitFrom_exposing {i : Nat} {b : Block} (h : (visitFrom i b).exposing) : b.exposing := visitAll_exposing h

/-- After the end of a step no exposure is in progress. -/
theorem stepEnded_not_exposing {b : Block} {a : ActiveOrder} {e : Entry} (ha : b.gate.active = some a)
    (he : b.gate.list[a.index]? = some e) : ¬ (stepEnded b).exposing := by
  by_cases hp : b.gate.withdrawPending = true ∨ b.gate.resetPending = true
  · rw [stepEnded_pending ha he hp]
    exact endPending_not_exposing b
  · cases hnext : nextStep a e with
    | none =>
      rw [stepEnded_last ha he hp hnext, endServed_eq]
      exact mt moveOut_exposing (not_exposing_of_none rfl)
    | some x =>
      rw [stepEnded_next ha he hp hnext]
      have he' : (withEntry a.index (fun e => { e with copy := x.1, step := x.2 }) b).gate.list[a.index]?
          = some { e with copy := x.1, step := x.2 } := by
        simp [withEntry_list, he]
      exact beginStep_not_exposing ha he'

theorem stepEnded_exposing {b : Block} (h : (stepEnded b).exposing) : b.exposing := by
  cases hx : b.gate.activeEntry with
  | none => simpa only [stepEnded, hx] using h
  | some x =>
    obtain ⟨ha, he⟩ := activeEntry_eq_some hx
    exact absurd h (stepEnded_not_exposing ha he)

/-! ## The gate's events keep the places -/

theorem endPending_fits {b : Block} (h : b.fits) : (endPending b).fits :=
  fits_of_charges (fun hx => absurd hx (endPending_not_exposing b)) h (by simp)

theorem endCycle_fits {oc : OutcomeCode} {b : Block} (h : b.fits) : (endCycle oc b).fits :=
  fits_of_charges (fun hx => absurd hx (not_exposing_of_none (endCycle_active oc b))) h (by simp)

theorem visitFrom_fits {i : Nat} {b : Block} (h : b.fits) : (visitFrom i b).fits :=
  fits_of_charges visitFrom_exposing h (by simp)

theorem stepEnded_fits {b : Block} (h : b.fits) : (stepEnded b).fits := fits_of_charges stepEnded_exposing h (by simp)

theorem resultReadsDone_fits {known : ResultWords} {got : List Word} {b : Block} (h : b.fits) :
    (resultReadsDone known got b).fits :=
  fits_of_charges resultLoaded_exposing h (by simp)

theorem takeUp_fits {b : Block} (h : b.fits) (d : Deferred) : (takeUp b d).fits := by
  cases d with
  | base n reason stamp =>
    change (formPass n reason stamp b).fits
    exact fits_of_frame h (by simp)
  | load n => exact fits_of_charges loadResult_exposing h (by simp)

theorem foldl_fits {α : Type} {f : Block → α → Block} (hf : ∀ b x, b.fits → (f b x).fits) (l : List α) {b : Block}
    (h : b.fits) : (l.foldl f b).fits := by
  induction l generalizing b with
  | nil => exact h
  | cons x l ih => exact ih (hf b x h)

theorem baseReadDone_fits {r : BaseRead} {got : List Word} {b : Block} (h : b.fits) : (baseReadDone r got b).fits :=
  foldl_fits (fun _ d hb => takeUp_fits hb d) _ (fits_of_frame h (by simp))

theorem planningReadDone_fits {got : List Word} {b : Block} (h : b.fits) : (planningReadDone got b).fits := by
  unfold planningReadDone
  dsimp only
  split
  · exact fits_of_frame h (by simp)
  · next i _ =>
    have hfreed : (portFreed ((endClaim b).setGate { (endClaim b).gate with visiting := none })).fits :=
      portFreed_fits (fits_of_charges (exposing_congr (by simp)).mp h (by simp))
    generalize portFreed ((endClaim b).setGate { (endClaim b).gate with visiting := none }) = c at hfreed
    split
    · exact hfreed
    · next e _ =>
      have hjudged : (if e.deactivated then dropEntry i c else if c.gate.ending then c else judgeEntry i e got c).fits := by
        split
        · exact fits_of_charges (exposing_congr (dropEntry_active i c)).mp hfreed (by simp)
        · split
          · exact hfreed
          · exact fits_of_charges (exposing_congr (judgeEntry_active i e got c)).mp hfreed (by simp)
      generalize (if e.deactivated then dropEntry i c else if c.gate.ending then c else judgeEntry i e got c) = d
        at hjudged ⊢
      split
      · exact endPending_fits hjudged
      · exact visitFrom_fits hjudged

theorem passOver_fits {b : Block} (h : b.fits) (n : Fin 24) : (passOver b n).fits :=
  fits_of_charges (exposing_congr (passOver_active b n)).mp h (by simp)

theorem scan_fits {b : Block} (h : b.fits) : (scan b).fits := by
  unfold scan
  dsimp only
  split
  · exact endCycle_fits h
  · refine visitFrom_fits (fits_of_charges (exposing_congr rfl).mp
      (foldl_fits (fun _ n hb => passOver_fits hb n) _ ?_) (by simp))
    exact fits_of_charges (exposing_congr (setList_active _ b)).mp h (by simp)

theorem judgeReading_fits {r : BitVec 10} {b : Block} (h : b.fits) : (judgeReading r b).fits := by
  have hread : (latchReading r b).fits := h
  unfold judgeReading
  dsimp only
  split
  · exact endCycle_fits hread
  · split
    · exact endCycle_fits hread
    · exact scan_fits hread

theorem conversionDone_fits {r : BitVec 10} {b : Block} (h : b.fits) : (conversionDone r b).fits := by
  have hended : (endConversion b).fits := h
  unfold conversionDone
  dsimp only
  split
  · split
    · exact endPending_fits hended
    · exact judgeReading_fits hended
  · exact h

theorem arriveOp_fits {b : Block} (h : b.fits) : (arriveOp b).fits := by
  have hstarted : (startCycle b).fits := fits_of_charges (fun hx => absurd hx (not_exposing_of_none rfl)) h (by simp)
  unfold arriveOp
  dsimp only
  split
  · split
    · exact hstarted
    · exact endCycle_fits hstarted
  · exact fits_of_frame h (by simp)

theorem endIfIdle_fits {b : Block} (h : b.fits) : (endIfIdle b).fits := by
  unfold endIfIdle
  split
  · split
    · exact endPending_fits h
    · exact h
  · split
    · exact h
    · exact endPending_fits h
  · exact h

theorem withdrawOp_fits {b : Block} (h : b.fits) : (withdrawOp b).fits := by
  unfold withdrawOp
  split
  · exact h
  · split
    · exact endIfIdle_fits h
    · exact h

theorem gateReset_fits {b : Block} (h : b.fits) : (gateReset b).fits := by
  unfold gateReset
  split
  · split
    · exact h
    · exact endIfIdle_fits h
  · exact fits_of_charges (exposing_congr (completeSoftReset_active b)).mp h (by simp)

theorem softResetOp_fits {b : Block} (h : b.fits) : (softResetOp b).fits := by
  unfold softResetOp
  split
  · exact h
  · exact gateReset_fits (fits_of_frame h (by simp))

theorem orderControlWrite_fits {n : Fin 24} {v : Word} {b : Block} (h : b.fits) : (orderControlWrite n v b).fits :=
  fits_of_charges (exposing_congr (by simp [orderControlWrite])).mp h (by simp)

theorem advanceDone_fits {b : Block} (h : b.fits) : (advanceDone b).fits := by
  unfold advanceDone
  dsimp only
  split
  · exact fits_of_frame h (by simp)
  · split
    · exact stepEnded_fits h
    · exact h

theorem pulse_fits {b : Block} (h : b.fits) : (pulse b).fits := by
  unfold pulse
  dsimp only
  split
  · split
    · split
      · exact fits_of_frame h (by simp)
      · exact advanceDone_fits h
    · exact h
  · exact h

theorem jamCycle_fits {b : Block} (h : b.fits) : (jamCycle b).fits := by
  unfold jamCycle
  split
  · split
    · exact endPending_fits h
    · exact fits_of_charges (fun hx => absurd hx (not_exposing_of_none (endCancelled_active _ _ b))) h (by simp)
  · exact h

theorem advanceTimeoutOp_fits {b : Block} (h : b.fits) : (advanceTimeoutOp b).fits := by
  unfold advanceTimeoutOp
  split
  · exact jamCycle_fits (fits_of_frame h (by simp))
  · exact h

theorem clockTick_fits {b : Block} (h : b.fits) : (clockTick b).fits := by
  have hcounted : (countTick b).fits := fits_of_frame h (by simp)
  have hrewind : (rewindTimeoutOp (advanceTimeoutOp (countTick b))).fits :=
    fits_of_frame (advanceTimeoutOp_fits hcounted) (by simp)
  have hrun : (runOut (countTick b)).fits := fits_of_frame (c := replyTimeoutOp _) hrewind (by simp)
  unfold clockTick
  split
  · exact h
  · split
    · exact settle_fits hrun
    · exact hcounted

/-! ## Reservations and postings -/

/-- A reservation is made only where there is room (R93). -/
theorem tryExpose_fits {b : Block} (h : b.fits) : (tryExpose b).fits := by
  unfold tryExpose
  split
  · next hcond =>
    have hroom := hasRoom_iff.mp hcond.2.2
    exact ⟨Nat.succ_le_of_lt hroom, fun _ => Nat.le_add_left 1 _⟩
  · exact h

theorem skipStep_fits {a : ActiveOrder} {e : Entry} {b : Block} (h : b.fits) : (skipStep a e b).fits :=
  stepEnded_fits (fits_of_charges (exposing_congr rfl).mp h (by simp))

theorem tableReadDone_fits {v : Word} {b : Block} (h : b.fits) : (tableReadDone v b).fits := by
  unfold tableReadDone
  split
  · exact h
  · next a e hx =>
    obtain ⟨ha, -⟩ := activeEntry_eq_some hx
    split
    · exact endPending_fits h
    · split
      · exact skipStep_fits h
      · refine tryExpose_fits (fits_of_charges (fun hw => absurd hw ?_) h (by simp))
        exact not_exposing_of_phase (a := { a with phase := .waiting }) (by simp [withActive, ha]) (by simp)

/-- A CREDIT joins the queue only where there is room (R94). -/
theorem spoilFrame_fits {p : Fin 4} {f : Fin 72} {b : Block} (hroom : b.hasRoom = true) (h : b.fits) :
    (spoilFrame p f b).fits := by
  have hplaces := hasRoom_iff.mp hroom
  obtain ⟨-, hreserved⟩ := h
  refine ⟨?_, fun hx => ?_⟩
  · simp [spoilFrame, queuePosting]
    omega
  · simpa [spoilFrame, queuePosting] using hreserved ((exposing_congr (by simp)).mp hx)

theorem walkOn_fits (fuel : Nat) {b : Block} (h : b.fits) : (walkOn fuel b).fits := by
  induction fuel generalizing b with
  | zero => exact h
  | succ fuel ih =>
    unfold walkOn
    dsimp only
    split
    · exact h
    · split
      · exact ih (fits_of_frame h (by simp))
      · split
        · split
          · next p _ _ _ _ hroom =>
            have hspoiled : (spoilFrame p (Fin.ofNat 72 (b.pages.walkPos - 1)) b).fits := spoilFrame_fits hroom h
            exact ih (fits_of_frame hspoiled (by simp))
          · exact h
        · exact ih (fits_of_frame h (by simp))

theorem walk_fits {b : Block} (h : b.fits) : (walk b).fits := walkOn_fits 292 h

theorem joinWalk_fits {p : Fin 4} {b : Block} (h : b.fits) : (joinWalk p b).fits := by
  unfold joinWalk
  split
  · exact walk_fits (fits_of_frame h (by simp))
  · exact fits_of_frame h (by simp)

theorem discardOp_fits {p : Fin 4} {b : Block} (h : b.fits) : (discardOp p b).fits := by
  have hb : (setPageState p .discarding b).fits := fits_of_frame h (by simp)
  have hleft : (if b.pages.pages[p].st = .returned then testHead (leaveQueue p (setPageState p .discarding b))
      else setPageState p .discarding b).fits := by
    split
    · exact fits_of_frame hb (by simp)
    · exact hb
  unfold discardOp
  dsimp only
  split
  · exact fits_of_frame (joinWalk_fits (p := p) hleft) (by simp)
  · exact fits_of_frame h (by simp)

theorem spoilOp_fits {p : Fin 4} {f : Fin 72} {b : Block} (h : b.fits) : (spoilOp p f b).fits := by
  unfold spoilOp
  split
  · next haccepted =>
    have hroom : b.hasRoom = true := (Bool.and_eq_true_iff.mp haccepted).2
    exact fits_of_frame (b := spoilFrame p f b) (spoilFrame_fits hroom h) (by simp)
  · exact fits_of_frame h (by simp)

theorem roomFound_fits {b : Block} (h : b.fits) : (roomFound b).fits := by
  have hdrawn : (drawFree b).fits := fits_of_frame h (by simp)
  unfold roomFound
  split
  · split
    · exact walk_fits (tryExpose_fits hdrawn)
    · exact tryExpose_fits (walk_fits hdrawn)
  · exact walk_fits (tryExpose_fits h)

theorem placeFreed_fits {spoils : Bool} {b : Block} (h : b.fits) : (placeFreed spoils b).fits := by
  have hdrawn : (drawFree b).fits := fits_of_frame h (by simp)
  unfold placeFreed
  split
  · split
    · exact hdrawn
    · exact roomFound_fits hdrawn
  · exact roomFound_fits h

theorem dropHead_fits {b : Block} (h : b.fits) : (dropHead b).fits := by
  obtain ⟨hplaces, hreserved⟩ := h
  refine ⟨?_, hreserved⟩
  simp only [dropHead, setCharges_charges, List.length_tail]
  omega

theorem faultPosting_fits {p : Posting} {b : Block} (h : b.fits) : (faultPosting p b).fits := dropHead_fits h

theorem postingDone_fits {spoils : Bool} {b : Block} (h : b.fits) : (postingDone spoils b).fits :=
  placeFreed_fits (dropHead_fits (fits_of_frame h (by simp)))

theorem postingReadDone_fits {spoils : Bool} {got : List Word} {b : Block} (h : b.fits) :
    (postingReadDone spoils got b).fits := by
  unfold postingReadDone
  split
  · exact fits_of_frame h (by simp)
  · split
    · exact fits_of_frame h (by simp)
    · exact placeFreed_fits (faultPosting_fits (fits_of_frame h (by simp)))

/-! ## A completed exposure gives its reservation to its CHARGE posting -/

theorem exposureInHand_eq_some {b : Block} {a : ActiveOrder} {e : Entry} {p : Fin 4} {f : Fin 72}
    (h : exposureInHand b = some (a, e, p, f)) :
    b.gate.active = some a ∧ b.gate.list[a.index]? = some e ∧ a.phase = .exposing := by
  unfold exposureInHand at h
  split at h
  · next hx _ =>
    obtain ⟨ha, he⟩ := activeEntry_eq_some hx
    split at h
    · next hphase =>
      cases h
      exact ⟨ha, he, hphase.1⟩
    · cases h
  · cases h

theorem endFrame_not_exposing {f : Fin 72} {b : Block} {a : ActiveOrder} {e : Entry} (ha : b.gate.active = some a)
    (he : b.gate.list[a.index]? = some e) : ¬ (endFrame f b).exposing := by
  by_cases hlast : f.val + 1 = b.film.length
  · rw [endFrame_last hlast]
    exact stepEnded_not_exposing (e := e) ha he
  · rw [endFrame_advance hlast]
    exact not_exposing_of_phase (a := { a with phase := .advancing }) (by simp [ha]) (by simp)

theorem exposureDone_fits {b : Block} (h : b.fits) : (exposureDone b).fits := by
  cases hx : exposureInHand b with
  | none => simpa only [exposureDone, hx] using h
  | some x =>
    obtain ⟨a, e, p, f⟩ := x
    obtain ⟨ha, he, hphase⟩ := exposureInHand_eq_some hx
    obtain ⟨hplaces, hreserved⟩ := h
    have hone : 1 ≤ b.charges.reserved := hreserved ⟨a, ha, hphase⟩
    have hgate := frameTaken_gate ha e (priceOf b a e) p f
    have hended : ¬ (exposureDone b).exposing := by
      rw [exposureDone_eq hx]
      refine endFrame_not_exposing (by rw [hgate]) ?_ (e := { e with exposed := e.exposed + 1, hold := e.hold - priceOf b a e })
      rw [hgate]
      simp [he]
    have hcharges : (exposureDone b).charges = (frameTaken a e (priceOf b a e) p f b).charges := by
      rw [exposureDone_eq hx]
      simp only [endFrame_frame]
    refine ⟨?_, fun hx => absurd hx hended⟩
    rw [hcharges, frameTaken_charges]
    simp only [List.length_append, List.length_cons, List.length_nil]
    omega

/-! ## The controller's accesses keep the places -/

theorem standRead_fits {a : Nat} {w : Fin 64} {b : Block} (h : b.fits) : (standRead a w b).fits := by
  unfold standRead
  split
  · exact fits_of_frame h (by simp)
  · exact fits_of_frame h (by simp)
  · exact fits_of_frame h (by simp)
  · exact h
  · exact fits_of_frame h (by simp)

theorem takeRead_fits {a : Nat} {b : Block} (h : b.fits) : (takeRead a b).fits := by
  unfold takeRead
  split
  · exact fits_of_frame h (by simp)
  · exact fits_of_frame h (by simp)
  · exact standRead_fits h
  all_goals exact fits_of_frame h (by simp)

theorem standWordWrite_fits {v : Word} {b : Block} (h : b.fits) : (standWordWrite v b).fits := by
  unfold standWordWrite
  split
  · exact fits_of_frame h (by simp)
  · exact fits_of_frame h (by simp)
  · exact softResetOp_fits h
  · exact fits_of_frame h (by simp)

theorem gateWordWrite_fits {v : Word} {b : Block} (h : b.fits) : (gateWordWrite v b).fits := by
  unfold gateWordWrite
  split
  · exact arriveOp_fits h
  · exact withdrawOp_fits h
  · exact fits_of_frame h (by simp)

theorem standWrite_fits {a : Nat} {w : Fin 64} {v : Word} {b : Block} (h : b.fits) : (standWrite a w v b).fits := by
  have hrefused (t : Target) : (refuseAt t b).fits := fits_of_frame h (by simp)
  unfold standWrite
  split
  · exact standWordWrite_fits h
  · exact h
  · exact h
  · exact h
  · exact h
  · exact h
  · exact h
  · exact gateWordWrite_fits h
  · exact fits_of_frame h (by simp)
  · split
    · exact fits_of_frame h (by simp)
    · exact hrefused _
  · exact fits_of_frame h (by simp)
  · split
    · exact fits_of_frame h (by simp)
    · exact hrefused _
  · exact h
  · exact h
  · exact h
  · exact h
  · exact h
  · exact hrefused _

theorem orderWrite_fits {n : Fin 24} {k : Fin 16} {v : Word} {b : Block} (h : b.fits) : (orderWrite n k v b).fits := by
  unfold orderWrite
  split
  · exact orderControlWrite_fits h
  · exact fits_of_frame h (by simp)

theorem headerWrite_fits {p : Fin 4} {k : Fin 8} {v : Word} {b : Block} (h : b.fits) : (headerWrite p k v b).fits := by
  unfold headerWrite
  split
  · split
    · exact fits_of_frame h (by simp)
    · exact discardOp_fits h
    · exact fits_of_frame h (by simp)
  · exact fits_of_frame h (by simp)

theorem spoilCommand_fits {p : Fin 4} {f : Fin 72} {b : Block} (h : b.fits) : (spoilCommand p f b).fits :=
  roomFound_fits (spoilOp_fits h)

theorem frameWrite_fits {p : Fin 4} {f : Fin 72} {k : Fin 6} {v : Word} {b : Block} (h : b.fits) :
    (frameWrite p f k v b).fits := by
  unfold frameWrite
  split
  · split
    · exact spoilCommand_fits h
    · exact fits_of_frame h (by simp)
    · exact fits_of_frame h (by simp)
    · exact fits_of_frame h (by simp)
  · exact fits_of_frame h (by simp)

theorem takeWrite_fits {a : Nat} {v : Word} {b : Block} (h : b.fits) : (takeWrite a v b).fits := by
  unfold takeWrite
  split
  · exact h
  · exact fits_of_frame h (by simp)
  · exact standWrite_fits h
  · exact fits_of_frame h (by simp)
  · exact orderWrite_fits h
  · exact fits_of_frame h (by simp)
  · exact fits_of_frame h (by simp)
  · exact headerWrite_fits h
  · exact frameWrite_fits h
  all_goals exact fits_of_frame h (by simp)

theorem takeAccess_fits {a : Access} {b : Block} (h : b.fits) : (takeAccess a b).fits := by
  cases a with
  | read x => exact takeRead_fits h
  | write x v => exact takeWrite_fits h

theorem takeHeld_fits {b : Block} (h : b.fits) : (takeHeld b).fits := by
  unfold takeHeld
  split
  · split
    · exact h
    · exact takeAccess_fits (fits_of_frame h (by simp))
  · exact h

/-! ## Completions and resets keep the places -/

theorem ownerDone_fits {spoils : Bool} {owner : Owner} {got : List Word} {b : Block} (h : b.fits) :
    (ownerDone spoils owner got b).fits := by
  cases owner with
  | windowInit => exact takeHeld_fits (fits_of_frame h (by simp))
  | skipBase r => exact baseReadDone_fits h
  | resultLoad known => exact resultReadsDone_fits h
  | tableRead => exact tableReadDone_fits h
  | planningRead => exact planningReadDone_fits h
  | postingRead => exact postingReadDone_fits h
  | controller => exact fits_of_frame (c := controllerDone got b) h (by simp)
  | ctlNvRead => exact fits_of_frame (c := ctlNvReadDone got b) h (by simp)
  | ctlAccountRead => exact fits_of_frame (c := accountReadDone got b) h (by simp)
  | writeBack n notice => exact fits_of_frame (c := writeBackDone n notice b) h (by simp)
  | fillRead => exact fits_of_frame (c := fillReadDone got b) h (by simp)
  | compose p f => exact fits_of_frame (c := compositionDone p f got b) h (by simp)
  | pageWrites | ctlAccountWrite | ctlGeneralWrite | postingWrite | fillWrite | lost => exact h

theorem completePort_fits {spoils : Bool} {sel : Service → Bool} {b : Block} (h : b.fits) :
    (completePort spoils sel b).fits := by
  have hfreed : (freePort b).fits := h
  unfold completePort
  split
  · exact h
  · split
    · refine settle_fits ?_
      split
      · exact ownerDone_fits hfreed
      · exact hfreed
    · exact h

theorem controllerClaimEnded_fits {b : Block} (h : b.fits) : (setBus .idle (endClaim b)).fits := fits_of_frame h (by simp)

theorem startValues_fits (b : Block) : (startValues b).fits :=
  ⟨Nat.zero_le 8, fun hx => absurd hx (not_exposing_of_none rfl)⟩

theorem startUnlessHeld_fits (straps : BitVec 2) (b : Block) : (startUnlessHeld straps b).fits := by
  unfold startUnlessHeld
  split
  · exact startValues_fits b
  · exact takeHeld_fits (startValues_fits b)

/-- From supply-low to power-on the queued postings stand, and nothing is reserved for an exposure (R103, log 20). -/
theorem supplyLowOp_fits {b : Block} (h : b.fits) : (supplyLowOp b).fits := by
  unfold supplyLowOp
  dsimp only
  split
  · exact startValues_fits _
  · have hcharges (c : Block) : (keepUntilPowerOn b c).charges = { b.charges with reserved := 0, applying := false }
        ∧ (keepUntilPowerOn b c).gate = c.gate := by
      unfold keepUntilPowerOn
      dsimp only
      split <;> exact ⟨rfl, rfl⟩
    obtain ⟨hc, hg⟩ := hcharges (startValues (b.setPins b.resetPin true))
    obtain ⟨hplaces, -⟩ := h
    refine ⟨?_, fun hx => absurd hx (not_exposing_of_none (by rw [hg]; rfl))⟩
    rw [hc]
    exact Nat.le_trans (Nat.add_le_add_left (Nat.zero_le _) _) hplaces

/-! ## Every command keeps the places -/

theorem exec_fits (c : Instr) {s : State} (h : s.part.fits) : ∃ t, exec c s = .next t ∧ t.part.fits := by
  cases c with
  | load | standClockRead | closeGate | fill | controllerNvRead | accountTableWrite | generalAreaWrite | returnPage
  | reprint | accept | templateLineWrite | resume | run | hold | settingsRecordWrite | schemeWrite | dayWordWrite =>
    exact ⟨_, rfl, settle_fits (onBus_fits (fits_of_frame h (by simp)) h)⟩
  | openGate | openingAmountWrite | noticeFlagsWrite | noticeLevelsWrite | refusedAddressLowRead =>
    exact ⟨_, rfl, onBus_fits (fits_of_frame h (by simp)) h⟩
  | arrivalReferenceWrite | unpostedTotalLowRead | unpostedTotalLowWrite | unpostedTotalHighWrite
  | lastFaultedAccountWrite =>
    exact ⟨_, rfl, onBus_fits h h⟩
  | orderControlRead n => exact ⟨_, rfl, arbitrate_fits (onBus_fits (fits_of_frame h (by simp)) h)⟩
  | orderControlWrite n v => exact ⟨_, rfl, settle_fits (onBus_fits (orderControlWrite_fits h) h)⟩
  | orderSetupWrite n k v => exact ⟨_, rfl, settle_fits (onBus_fits (orderWrite_fits h) h)⟩
  | orderResultWordWrite n k v => exact ⟨_, rfl, settle_fits (onBus_fits (orderWrite_fits h) h)⟩
  | arrive => exact ⟨_, rfl, settle_fits (onBus_fits (arriveOp_fits h) h)⟩
  | withdraw => exact ⟨_, rfl, settle_fits (onBus_fits (withdrawOp_fits h) h)⟩
  | unload closed =>
    have hsensed : (senseSwitch closed s.part).fits := h
    exact ⟨_, rfl, settle_fits (onBus_fits (fits_of_frame hsensed (by simp)) hsensed)⟩
  | retry closed =>
    have hsensed : (senseSwitch closed s.part).fits := h
    exact ⟨_, rfl, settle_fits (onBus_fits (fits_of_frame hsensed (by simp)) hsensed)⟩
  | discard p => exact ⟨_, rfl, settle_fits (onBus_fits (discardOp_fits h) h)⟩
  | spoil p f => exact ⟨_, rfl, settle_fits (onBus_fits (spoilCommand_fits h) h)⟩
  | softReset => exact ⟨_, rfl, settle_fits (onBus_fits (softResetOp_fits h) h)⟩
  | refusedWrite a v => exact ⟨_, rfl, settle_fits (onBus_fits (takeWrite_fits h) h)⟩
  | controllerMemoryAccess a => exact ⟨_, rfl, settle_fits (onBus_fits (takeAccess_fits h) h)⟩
  | writeBackComplete | skipBaseReadComplete | planningReadComplete | resultCopyLoaded | exposureTableReadComplete
  | postingReadComplete | fillStepReadComplete | controllerNvReadComplete | accountWriteReadComplete | compositionComplete
  | memoryAccessComplete | windowInitialisationEnd => exact ⟨_, rfl, completePort_fits h⟩
  | postingWriteComplete => exact ⟨_, rfl, onReady_fits (fun _ => postingDone_fits) h⟩
  | fillStepComplete => exact ⟨_, rfl, onReady_fits (f := fillStepDone) (fun _ hb => fits_of_frame hb (by simp)) h⟩
  | accountWriteComplete | generalAreaWriteComplete =>
    exact ⟨_, rfl, onReady_fits (f := fun b => setBus .idle (endClaim b)) (fun _ => controllerClaimEnded_fits) h⟩
  | nvReadyAfterReset => exact ⟨_, rfl, onReady_fits (fun _ hb => hb) h⟩
  | conversionCompletion r => exact ⟨_, rfl, settle_fits (conversionDone_fits h)⟩
  | exposureCompletion => exact ⟨_, rfl, settle_fits (exposureDone_fits h)⟩
  | perforationPulse => exact ⟨_, rfl, settle_fits (pulse_fits h)⟩
  | endOfFilmSwitchClosing => exact ⟨_, rfl, settle_fits (fits_of_frame h (by simp))⟩
  | byteArrival d bit stop => exact ⟨_, rfl, settle_fits (fits_of_frame h (by simp))⟩
  | standClockIncrement => exact ⟨_, rfl, clockTick_fits h⟩
  | advanceTimeout | rewindTimeout | replyTimeout =>
    refine ⟨_, rfl, ?_⟩
    dsimp only
    split
    · exact clockTick_fits h
    · exact h
  | messageEnd =>
    refine ⟨_, rfl, ?_⟩
    dsimp only
    split <;> exact h
  | transmitStopBitEnd => exact ⟨_, rfl, fits_of_frame h (by simp)⟩
  | receiveLineReturnToRest => exact ⟨_, rfl, h⟩
  | powerOn straps failed => exact ⟨_, rfl, settle_fits (startUnlessHeld_fits _ _)⟩
  | resetPinAssert => exact ⟨_, rfl, startValues_fits _⟩
  | resetPinRelease straps =>
    refine ⟨_, rfl, settle_fits ?_⟩
    unfold pinRelease
    split
    · exact startUnlessHeld_fits _ _
    · exact h
  | supplyLow => exact ⟨_, rfl, supplyLowOp_fits h⟩
  | supplyGood straps failed =>
    refine ⟨_, rfl, settle_fits ?_⟩
    unfold supplyGoodOp
    split
    · exact startUnlessHeld_fits _ _
    · exact h

/-- Settles O5: every command keeps the places of the posting queue, and so does an idle step. -/
theorem postingsFitKept : Obligations.PostingsFitKept := by
  intro s t h hstep
  unfold step at hstep
  split at hstep
  · cases hstep
    exact h
  · next c rest _ =>
    obtain ⟨t', hexec, hfits⟩ := exec_fits c (s := { s with pending := rest }) h
    cases hexec.symm.trans hstep
    exact hfits

end Sys2Proof.Machine
end

section
/-! The Charge Unit: the unposted total and the last faulted account, the application of the head posting and the room it frees, the
judgement of an account, and the statements of chapter 5. -/

namespace Sys2Proof.Machine

/-! ## The stand words of the unposted total and the last faulted account -/

/-- Word `w` of the stand block is window word `w`. -/
theorem decodeAddr_stand (straps : BitVec 2) (w : Fin 64) : decodeAddr straps (addrOf straps (.stand w)) = .stand w := by
  have hbase := windowBase_cases straps
  have heven : evenAddr (addrOf straps (.stand w)) = addrOf straps (.stand w) := by
    simp only [evenAddr, addrOf]
    omega
  have hin : inWindow straps (addrOf straps (.stand w)) = true :=
    decide_eq_true (by simp only [addrOf]; omega)
  have hword : (addrOf straps (.stand w) - windowBase straps) / 2 = w.val := by
    simp only [addrOf]
    omega
  have hlt : addrOf straps (.stand w) < 0x20000 := by
    simp only [addrOf]
    omega
  simp only [decodeAddr, heven, nvBase, hin, hword, if_true]
  rw [if_neg (by omega), if_neg (by omega), windowTarget, if_pos w.isLt]
  simp

/-- A read of a stand word that has no row of its own (log 33). -/
theorem exec_standWordRead {s : State} (h : s.part.reached) (w : Fin 64) :
    exec (.controllerMemoryAccess (.read (addrOf s.part.path.straps (.stand w)))) s
      = .next ⟨s.pending, settle (standRead (addrOf s.part.path.straps (.stand w)) w s.part)⟩ := by
  have hexec (a : Access) : exec (.controllerMemoryAccess a) s = execControllerMemoryAccess a s := rfl
  simp only [hexec, execControllerMemoryAccess, event, onBus_reached h, takeAccess, takeRead, decodeAddr_stand]

theorem exec_unpostedTotalLowRead {s : State} (h : s.part.reached) :
    exec .unpostedTotalLowRead s = .next ⟨s.pending, unpostedLowRead s.part⟩ := by
  have hexec : exec .unpostedTotalLowRead s = execUnpostedTotalLowRead s := rfl
  simp only [hexec, execUnpostedTotalLowRead, event, readAt_reached h]

theorem exec_unpostedTotalLowWrite {s : State} (h : s.part.reached) (v : Word) :
    exec (.unpostedTotalLowWrite v) s = .next ⟨s.pending, unpostedLowWrite v s.part⟩ := by
  have hexec : exec (.unpostedTotalLowWrite v) s = execUnpostedTotalLowWrite v s := rfl
  simp only [hexec, execUnpostedTotalLowWrite, event, writeAt_reached h]

theorem exec_unpostedTotalHighWrite {s : State} (h : s.part.reached) (v : Word) :
    exec (.unpostedTotalHighWrite v) s = .next ⟨s.pending, unpostedHighWrite v s.part⟩ := by
  have hexec : exec (.unpostedTotalHighWrite v) s = execUnpostedTotalHighWrite v s := rfl
  simp only [hexec, execUnpostedTotalHighWrite, event, writeAt_reached h]

theorem exec_lastFaultedAccountWrite {s : State} (h : s.part.reached) (v : Word) :
    exec (.lastFaultedAccountWrite v) s = .next ⟨s.pending, lastFaultedWrite s.part⟩ := by
  have hexec : exec (.lastFaultedAccountWrite v) s = execLastFaultedAccountWrite v s := rfl
  simp only [hexec, execLastFaultedAccountWrite, event, writeAt_reached h]

/-- What a faulted posting leaves of the Charge Unit (R96). -/
theorem faultPosting_charges (p : Posting) (b : Block) : (faultPosting p b).charges = { b.charges with
    queue := b.charges.queue.tail, applying := false, unposted := satAmount (b.charges.unposted.toInt + p.delta),
    lastFaulted := some p.account } := by
  simp [faultPosting, dropHead]

/-- Settles O15: the two reads and the two writes, and a fault before and after the write of the high word. -/
theorem unpostedTotalIsStaged : Obligations.UnpostedTotalIsStaged := by
  intro v s h
  refine ⟨?lowRead, ?highRead, ?lowWrite, ?highWrite, fun p => ⟨?_, ?_, ?lost, ?added⟩⟩
  case lowRead => rw [exec_unpostedTotalLowRead h]; rfl
  case highRead => rw [exec_standWordRead h]; rfl
  case lowWrite => rw [exec_unpostedTotalLowWrite h]; rfl
  case highWrite => rw [exec_unpostedTotalHighWrite h]; rfl
  case lost => rw [unpostedHighWrite, faultPosting_charges]; rfl
  case added => rw [faultPosting_charges]; rfl
  all_goals rw [faultPosting_charges]

theorem lastFaultedWord_eq (c : Charges) :
    lastFaultedWord c = (c.lastFaulted.map (fun a => BitVec.ofNat 16 a.val)).getD 0xFFFF := by
  unfold lastFaultedWord
  split
  next h => rw [h]; rfl
  next a h => rw [h]; rfl

/-- Settles O16: the read, the write, and a fault before and after a write. -/
theorem lastFaultedAccountCleared : Obligations.LastFaultedAccountCleared := by
  intro v s h
  refine ⟨?read, ?write, fun p => ⟨?set, rfl, ?setAgain⟩⟩
  case read => rw [exec_standWordRead h, ← lastFaultedWord_eq]; rfl
  case write => rw [exec_lastFaultedAccountWrite h]; rfl
  all_goals rw [faultPosting_charges]

/-! ## Who takes the room that a posting frees -/

theorem spoilNext_false {l : List Instr} (h : ∀ q f rest, l ≠ .spoil q f :: rest) : spoilNext l = false := by
  unfold spoilNext
  split
  next q f rest => exact absurd rfl (h q f rest)
  next => rfl

/-- With no SPOIL next, what waits takes the place at once (R94). -/
theorem placeFreed_no_spoil {l : List Instr} (h : ∀ q f rest, l ≠ .spoil q f :: rest) (b : Block) :
    placeFreed (spoilNext l) b = roomFound b := by
  rw [spoilNext_false h]
  rfl

/-- A SPOIL that comes next may be taken before what waits (R94, log 35). -/
theorem placeFreed_spoil (q : Fin 4) (f : Fin 72) (rest : List Instr) (b : Block) :
    placeFreed (spoilNext (.spoil q f :: rest)) b = drawFree b
      ∨ placeFreed (spoilNext (.spoil q f :: rest)) b = roomFound (drawFree b) := by
  cases hfree : Config.spoilFirst b.freeCount <;> simp [placeFreed, spoilNext, hfree]

/-- The two answers to the room that an event has freed, by the command that comes next (R94, log 35). -/
theorem placeFreed_answers {o : Host.Outcome State Fault Refusal} {l : List Instr} {b : Block}
    (ho : o = .next ⟨l, settle (placeFreed (spoilNext l) b)⟩) :
    ((∀ q f rest, l ≠ .spoil q f :: rest) → o = .next ⟨l, settle (roomFound b)⟩)
      ∧ (∀ q f rest, l = .spoil q f :: rest →
          o = .next ⟨l, settle (drawFree b)⟩ ∨ o = .next ⟨l, settle (roomFound (drawFree b))⟩) := by
  subst ho
  refine ⟨fun h => by rw [placeFreed_no_spoil h], fun q f rest h => ?_⟩
  subst h
  rcases placeFreed_spoil q f rest b with h | h
  · exact .inl (by rw [h])
  · exact .inr (by rw [h])

theorem stepWaits_iff {b : Block} : stepWaits b = true ↔ ∃ a, b.gate.active = some a ∧ a.phase = .waiting := by
  simp [stepWaits, Option.any_eq_true]

theorem exposureContends_iff {b : Block} : exposureContends b = true ↔
    (∃ a, b.gate.active = some a ∧ a.phase = .waiting) ∧ b.film.st = .ready := by
  simp only [exposureContends, Bool.and_eq_true, stepWaits_iff, decide_eq_true_eq]

theorem roomFound_uncontended {b : Block} (h : ¬ (exposureContends b = true ∧ b.pages.walkQueue ≠ [])) :
    roomFound b = walk (tryExpose b) :=
  if_neg h

/-- A waiting exposure and a waiting walk may go in either order (R94, log 11). -/
theorem roomFound_contended {b : Block} (h : exposureContends b = true ∧ b.pages.walkQueue ≠ []) :
    roomFound b = walk (tryExpose (drawFree b)) ∨ roomFound b = tryExpose (walk (drawFree b)) := by
  rw [roomFound, if_pos h]
  cases Config.exposureFirst b.freeCount
  · exact .inr rfl
  · exact .inl rfl

theorem tryExpose_taken {b : Block} (hw : ∃ a, b.gate.active = some a ∧ a.phase = .waiting) (hfilm : b.film.st = .ready)
    (hroom : b.charges.queue.length + b.charges.reserved < 8) : tryExpose b = { b with
      charges := { b.charges with reserved := b.charges.reserved + 1 },
      expo := { b.expo with stamp := b.stand.clock, lamp := .expose },
      film := { b.film with st := .exposing },
      gate := { b.gate with active := b.gate.active.map (fun a => { a with phase := .exposing }) } } := by
  rw [tryExpose, if_pos ⟨stepWaits_iff.mpr hw, hfilm, hasRoom_iff.mpr hroom⟩]
  rfl

theorem tryExpose_not_waiting {b : Block} (h : ∀ a, b.gate.active = some a → a.phase ≠ .waiting) : tryExpose b = b := by
  refine if_neg fun hall => ?_
  obtain ⟨a, ha, hphase⟩ := stepWaits_iff.mp hall.1
  exact h a ha hphase

/-! ## The application of the head posting -/

theorem exec_postingReadComplete {s : State} {v : Service} (hport : s.part.path.port = some v) (hlast : v.last = true)
    (howner : v.owner = .postingRead) : exec .postingReadComplete s
      = .next ⟨s.pending, settle (postingReadDone (spoilNext s.pending) v.got (freePort s.part))⟩ := by
  have hexec : exec .postingReadComplete s = completing (lastOf (Owner.is .postingRead)) s := rfl
  rw [hexec, completing_last hport hlast (by simp [lastOf, Owner.is, hlast, howner]), howner]
  rfl

theorem postingReadDone_sound {b : Block} {p : Posting} {tail : List Posting} {got : List Word}
    (hq : b.charges.queue = p :: tail) (h : recordSound got = true) (spoils : Bool) :
    postingReadDone spoils got b
      = beginCycle .postingWrite (recordCycle p.account (postedRecord got p b.stand.day)) b := by
  simp only [postingReadDone, hq, h, if_true]

theorem postingReadDone_faulted {b : Block} {p : Posting} {tail : List Posting} {got : List Word}
    (hq : b.charges.queue = p :: tail) (h : recordSound got = false) (spoils : Bool) :
    postingReadDone spoils got b = placeFreed spoils (faultPosting p (endClaim b)) := by
  simp only [postingReadDone, hq, h, Bool.false_eq_true, if_false]

/-- The memory is ready when the last word of the cycle has been handed over to it. -/
theorem readyCycle_some {b : Block} {c : Option Claim} {l : List (Nat × Word)} (hserving : b.nv.serving = c)
    (hcycle : b.nvCycle = some l) (hport : ∀ v, b.path.port = some v → v.acc.isNv = false) : readyCycle c b = some l := by
  have hany : b.path.port.any (fun s => s.acc.isNv) = false := by
    cases hp : b.path.port with
    | none => rfl
    | some v => exact hport v hp
  rw [readyCycle, if_pos ⟨hserving, by rw [hany]; rfl⟩, hcycle]

theorem exec_postingWriteComplete {s : State} {l : List (Nat × Word)} (hserving : s.part.nv.serving = some .posting)
    (hcycle : s.part.nvCycle = some l) (hport : ∀ v, s.part.path.port = some v → v.acc.isNv = false) :
    exec .postingWriteComplete s
      = .next ⟨s.pending, settle (postingDone (spoilNext s.pending) (commitCycle l s.part))⟩ := by
  have hexec : exec .postingWriteComplete s
      = event (onReady (some .posting) (postingDone (spoilNext s.pending))) s := rfl
  simp only [hexec, event, onReady, readyCycle_some hserving hcycle hport]

/-- Settles O45: the read's completion, the cycle's ready event, and the room they free. -/
theorem postingApplied : Obligations.PostingApplied := by
  refine ⟨fun p tail got v s hport hlast howner hgot hq => ?read, fun l s hserving hcycle hport => ?ready, fun b => ?room⟩
  case read =>
    subst hgot
    obtain rfl : tail = s.part.charges.queue.tail := by rw [hq]; rfl
    intro l b drawn answers
    have hexec := exec_postingReadComplete hport hlast howner
    have hfaulted (h : recordSound v.got = false) :
        exec .postingReadComplete s = .next ⟨s.pending, settle (placeFreed (spoilNext s.pending) b)⟩ := by
      rw [hexec, postingReadDone_faulted (b := freePort s.part) hq h]
      rfl
    refine ⟨fun h => ?sound, fun h => (placeFreed_answers (hfaulted h)).1,
      fun q f rest h => (placeFreed_answers (hfaulted h)).2 q f rest⟩
    case sound =>
      rw [postingReadDone_sound (b := freePort s.part) hq h] at hexec
      exact hexec
  case ready =>
    intro b drawn answers
    exact placeFreed_answers (exec_postingWriteComplete hserving hcycle hport)
  case room =>
    intro c both
    have hboth : exposureContends b = true ∧ b.pages.walkQueue ≠ [] ↔ both := by
      rw [exposureContends_iff, and_assoc]
    refine ⟨fun h => roomFound_uncontended (mt hboth.mp h), fun h => roomFound_contended (hboth.mpr h), tryExpose_taken,
      fun h => ?_⟩
    rcases h with hphase | hfilm | hfull
    · exact tryExpose_not_waiting hphase
    · exact tryExpose_waits fun h => hfilm h.1
    · exact tryExpose_waits fun h => absurd (hasRoom_iff.mp h.2) (Nat.not_lt.mpr hfull)

/-! ## A planning read's end frees the Account Store Port -/

theorem postingOffered_isSome {b : Block} : b.postingOffered.isSome = true ↔
    b.charges.queue ≠ [] ∧ b.charges.applying = false ∧ b.nv.fill ≠ .filling := by
  unfold Block.postingOffered
  cases happlying : b.charges.applying <;> by_cases hfill : b.nv.fill = .filling <;> cases hq : b.charges.queue <;>
    simp [hfill]

theorem postingWaits_iff {b : Block} : b.postingWaits = true ↔ b.charges.queue ≠ [] ∧ b.charges.applying = false
    ∧ b.nv.fill ≠ .filling ∧ ∀ x, b.path.bus ≠ .nvWait x := by
  have hbus : (match b.path.bus with | .nvWait _ => false | _ => true) = true ↔ ∀ x, b.path.bus ≠ .nvWait x := by
    cases b.path.bus <;> simp
  have hwaits : b.postingWaits = true ↔ b.postingOffered.isSome = true ∧ ∀ x, b.path.bus ≠ .nvWait x := by
    rw [← hbus, ← Bool.and_eq_true]
    rfl
  rw [hwaits, postingOffered_isSome, and_assoc, and_assoc]

theorem portFreed_idle {b : Block} (h : ¬ b.postingWaits = true) : portFreed b = b := if_neg h

/-- A posting that waits is taken before the next claim or behind it (R88, R109, log 40). -/
theorem portFreed_waits {b : Block} (h : b.postingWaits = true) :
    portFreed b = drawFree b ∨ portFreed b = nvTake (drawFree b) := by
  rw [portFreed, if_pos h]
  cases Config.postingFirst b.freeCount
  · exact .inl rfl
  · exact .inr rfl

/-- What the judgement of an account reads stands as the port is freed (log 40). -/
theorem portFreed_parts (b : Block) :
    (portFreed b).charges.queue = b.charges.queue ∧ (portFreed b).stand.latched = b.stand.latched := by
  unfold portFreed
  split
  · split <;> simp
  · exact ⟨rfl, rfl⟩

/-! ## The judgement of an account -/

theorem recordRate_eq (r : List Word) : recordRate r = Fin.ofNat 4 (r.headD 0).toNat := by
  have hhead : r.getD 0 0 = r.headD 0 := by cases r <;> rfl
  refine Fin.ext ?_
  simp only [recordRate, recordWord, bits, hhead, Fin.val_ofNat]
  omega

theorem recordStopped_iff (r : List Word) : recordStopped r = true ↔ (r.getD 0 0).toNat / 256 = 2 := by
  have hlt := (r.getD 0 0).isLt
  rw [recordStopped, decide_eq_true_iff, recordState, recordWord, bits]
  omega

theorem judgeAccount_unsound {b : Block} {e : Entry} {r : List Word} (h : recordSound r = false) :
    judgeAccount b e r = some .accountFault := by
  simp [judgeAccount, h]

theorem judgeAccount_stopped {b : Block} {e : Entry} {r : List Word} (h : recordSound r = true)
    (hs : recordStopped r = true) : judgeAccount b e r = some .accountStopped := by
  simp [judgeAccount, h, hs]

theorem judgeAccount_short {b : Block} {e : Entry} {r : List Word} (h : recordSound r = true)
    (hs : ¬ recordStopped r = true) (hf : available b e.account r (entryHold b e r) < recordFloor r) :
    judgeAccount b e r = some .fundsShort := by
  simp [judgeAccount, h, hs, hf]

theorem judgeAccount_placed {b : Block} {e : Entry} {r : List Word} (h : recordSound r = true)
    (hs : ¬ recordStopped r = true) (hf : recordFloor r ≤ available b e.account r (entryHold b e r)) :
    judgeAccount b e r = none := by
  simp [judgeAccount, h, hs, hf]

theorem judgeEntry_refused {b : Block} {e : Entry} {r : List Word} {reason : Reason}
    (h : judgeAccount b e r = some reason) (i : Nat) : judgeEntry i e r b
      = skipOrder e.slot reason (withOutcome (countSkip reason) (skipEntry i reason b)) := by
  simp only [judgeEntry, h]

theorem judgeEntry_placed {b : Block} {e : Entry} {r : List Word} (h : judgeAccount b e r = none) (i : Nat) :
    judgeEntry i e r b
      = withEntry i (fun x => { x with st := .planned, rate := recordRate r, hold := entryHold b e r }) b := by
  simp only [judgeEntry, h]

/-- The judgement does not see what the port takes as it is freed. -/
theorem available_congr {b c : Block} (hq : c.charges.queue = b.charges.queue) (hl : c.gate.list = b.gate.list)
    (a : Fin 128) (r : List Word) (own : Nat) : available c a r own = available b a r own := by
  simp only [available, queuedDeltas, plannedHolds, hq, hl]

/-! ## The completion of a planning read -/

theorem dropEntry_modify (i : Nat) (b : Block) : dropEntry i b = { b with gate := { b.gate with
    list := b.gate.list.modify i (fun x => { x with st := .dropped, hold := 0 }),
    outcome := { b.gate.outcome with dropped := min 255 (b.gate.outcome.dropped + 1) } } } := rfl

/-- A refusal is counted in the outcome record (R30, R42). -/
theorem withOutcome_skipEntry (i : Nat) (reason : Reason) (f : OutcomeRecord → OutcomeRecord) (b : Block) :
    withOutcome f (skipEntry i reason b) = { b with gate := { b.gate with
      list := b.gate.list.modify i (fun x => { x with st := .skipped, reason := reason }), outcome := f b.gate.outcome } } :=
  rfl

theorem exec_planningReadComplete {s : State} {v : Service} (hport : s.part.path.port = some v) (hlast : v.last = true)
    (howner : v.owner = .planningRead) : exec .planningReadComplete s
      = .next ⟨s.pending, settle (planningReadDone v.got (freePort s.part))⟩ := by
  have hexec : exec .planningReadComplete s = completing (lastOf (Owner.is .planningRead)) s := rfl
  rw [hexec, completing_last hport hlast (by simp [lastOf, Owner.is, hlast, howner]), howner]
  rfl

/-- The block as the planning read of the entry visited leaves it, before the entry is judged (R30). -/
def readEnded (b : Block) : Block := (endClaim b).setGate { b.gate with visiting := none }

section
variable {b : Block} {i : Nat} {e : Entry} (hvisit : b.gate.visiting = some i) (hlist : b.gate.list[i]? = some e)
  (got : List Word)
include hvisit hlist

/-- What becomes of the entry visited, then the ending that a mark asks for or the next visit (R30, R38, R41; log 34). -/
theorem planningReadDone_eq :
    let c := portFreed (readEnded b)
    let d := if e.deactivated then dropEntry i c else if b.gate.ending then c else judgeEntry i e got c
    planningReadDone got b = if b.gate.ending then endPending d else visitFrom (i + 1) d := by
  intro c d
  have hgate : c.gate = { b.gate with visiting := none } := by simp [c, readEnded]
  have hentry : c.gate.list[i]? = some e := by rw [hgate]; exact hlist
  have hending : c.gate.ending = b.gate.ending := by rw [hgate]; rfl
  have hread : portFreed ((endClaim b).setGate { (endClaim b).gate with visiting := none }) = c := rfl
  simp only [planningReadDone, hvisit, hread, hentry, hending, d]

theorem planningReadDone_dropped (hd : e.deactivated = true) (hp : ¬ b.gate.ending = true) :
    planningReadDone got b = visitFrom (i + 1) (dropEntry i (portFreed (readEnded b))) := by
  simp only [planningReadDone_eq hvisit hlist, hd, hp, if_true]
  rfl

theorem planningReadDone_dropped_marked (hd : e.deactivated = true) (hp : b.gate.ending = true) :
    planningReadDone got b = endPending (dropEntry i (portFreed (readEnded b))) := by
  simp only [planningReadDone_eq hvisit hlist, hd, hp, if_true]

theorem planningReadDone_marked (hd : e.deactivated = false) (hp : b.gate.ending = true) :
    planningReadDone got b = endPending (portFreed (readEnded b)) := by
  simp only [planningReadDone_eq hvisit hlist, hd, hp, if_true, Bool.false_eq_true, if_false]

theorem planningReadDone_judged (hd : e.deactivated = false) (hp : ¬ b.gate.ending = true) :
    planningReadDone got b = visitFrom (i + 1) (judgeEntry i e got (portFreed (readEnded b))) := by
  simp only [planningReadDone_eq hvisit hlist, hd, hp, Bool.false_eq_true, if_false]

end

/-- Settles O34: a deactivated entry, a pending mark, and the judgement in its order, each after either answer of the port. -/
theorem planningReadJudges : Obligations.PlanningReadJudges := by
  intro i e got v s hport hlast howner hgot hvisit hlist idle drawn contends st amountAt rate hold free pending judged
    stopped answers
  subst hgot
  obtain ⟨b, hb⟩ : ∃ b, b = portFreed idle := ⟨_, rfl⟩
  have hread : portFreed (readEnded (freePort s.part)) = b := hb.symm
  have hexec := exec_planningReadComplete hport hlast howner
  have hwaits : idle.postingWaits = true ↔ contends := postingWaits_iff
  have hpending : s.part.gate.ending = true ↔ pending := ending_iff
  have hstopped : recordStopped v.got = true ↔ stopped := recordStopped_iff v.got
  have hhold : entryHold b e v.got = hold := by
    simp only [entryHold, hb, (portFreed_parts idle).2, recordRate_eq]
    rfl
  have hfree : available b e.account v.got (entryHold b e v.got) = free := by
    rw [available_congr (b := idle) (hb ▸ (portFreed_parts idle).1) (by simp [hb]), hhold]
    rfl
  have hjudged (h : judged) : answers (visitFrom (i + 1) (judgeEntry i e v.got b)) := by
    obtain ⟨hd, hp⟩ := h
    rw [planningReadDone_judged (b := freePort s.part) hvisit hlist _ hd (mt hpending.mp hp), hread] at hexec
    exact hexec
  refine ⟨b, fun h => hb.trans (portFreed_idle (mt hwaits.mp h)), fun h => hb ▸ portFreed_waits (hwaits.mpr h),
    fun hd hp => ?dropped, fun hd hp => ?droppedMarked, fun hd hp => ?marked, fun hj hr => ?unsound,
    fun hj hr hs => ?accountStopped, fun hj hr hs hf => ?short, fun hj hr hs hf => ?planned⟩
  case dropped =>
    rw [planningReadDone_dropped (b := freePort s.part) hvisit hlist _ hd (mt hpending.mp hp), hread,
      dropEntry_modify] at hexec
    exact hexec
  case droppedMarked =>
    rw [planningReadDone_dropped_marked (b := freePort s.part) hvisit hlist _ hd (hpending.mpr hp), hread,
      dropEntry_modify] at hexec
    exact hexec
  case marked =>
    rw [planningReadDone_marked (b := freePort s.part) hvisit hlist _ hd (hpending.mpr hp), hread] at hexec
    exact hexec
  case unsound =>
    have h := hjudged hj
    rw [judgeEntry_refused (judgeAccount_unsound hr), withOutcome_skipEntry] at h
    exact h
  case accountStopped =>
    have h := hjudged hj
    rw [judgeEntry_refused (judgeAccount_stopped hr (hstopped.mpr hs)), withOutcome_skipEntry] at h
    exact h
  case short =>
    have h := hjudged hj
    rw [judgeEntry_refused (judgeAccount_short hr (mt hstopped.mp hs) (hfree ▸ hf)), withOutcome_skipEntry] at h
    exact h
  case planned =>
    have h := hjudged hj
    rw [judgeEntry_placed (judgeAccount_placed hr (mt hstopped.mp hs) (hfree ▸ hf)), hhold, recordRate_eq] at h
    exact h

end Sys2Proof.Machine
end

section
/-! The Account Store: account records and the addresses of their words, the claims the Account Store Port takes, the gate and the
fill, the controller's accesses and their completions, and the statements of chapter 6. -/

namespace Sys2Proof.Machine

/-! ## Account records -/

theorem sumWords_eq_sum (l : List Word) : sumWords l = l.sum := List.sum_eq_foldl.symm

/-- The state field is the high byte of word 0. -/
theorem recordState_eq (r : List Word) : recordState r = (recordWord r 0).toNat / 256 := by
  have hlt := (recordWord r 0).isLt
  rw [recordState, bits]
  omega

theorem recordSound_iff (r : List Word) : recordSound r = true ↔
    recordWord r 7 = checkWord (r.take 7)
      ∧ ((recordWord r 0).toNat / 256 = 1 ∨ (recordWord r 0).toNat / 256 = 2) := by
  simp only [recordSound, recordState_eq, Bool.and_eq_true, Bool.or_eq_true, decide_eq_true_iff]

theorem satAmount_toInt (i : Int) : (satAmount i).toInt = max (-2147483648) (min 2147483647 i) := by
  rw [satAmount, BitVec.toInt_ofInt, Int.bmod_eq_of_le (by omega) (by omega)]

theorem checkWord_seven (x0 x1 x2 x3 x4 x5 x6 : Word) :
    checkWord [x0, x1, x2, x3, x4, x5, x6] = ~~~ (x0 + x1 + x2 + x3 + x4 + x5 + x6) := by
  simp only [checkWord, sumWords, List.foldl_cons, List.foldl_nil, zero_add]

theorem withCheck_seven (x0 x1 x2 x3 x4 x5 x6 : Word) : withCheck [x0, x1, x2, x3, x4, x5, x6]
    = [x0, x1, x2, x3, x4, x5, x6, ~~~ (x0 + x1 + x2 + x3 + x4 + x5 + x6)] := by
  rw [withCheck, checkWord_seven]
  rfl

theorem filledRecord_sound {r : List Word} (h : recordSound r = true) (opening : Amount) (day : Word) :
    filledRecord r opening day = withCheck [recordWord r 0, lowHalf opening, highHalf opening, recordWord r 3,
      recordWord r 4, 0, day] := by
  simp only [filledRecord, h, if_true]

theorem filledRecord_faulted {r : List Word} (h : ¬ recordSound r = true) (opening : Amount) (day : Word) :
    filledRecord r opening day = withCheck [0x0100, lowHalf opening, highHalf opening, 0, 0, 0, day] := by
  simp only [filledRecord, h, Bool.false_eq_true, if_false]

/-- Settles O44: the judgement of a record, then the record of a posting by its kind and that of a fill step by the judgement. -/
theorem recordsFormed : Obligations.RecordsFormed := by
  intro a b c d e f g h day p opening r check code balance life sound
  have hposted : postedRecord r p day = withCheck [a, lowHalf (satAmount (recordBalance r + p.delta)),
      highHalf (satAmount (recordBalance r + p.delta)), d, e, life, day] := by
    cases hk : p.kind <;> simp only [postedRecord, life, hk] <;> rfl
  refine ⟨?judged, ⟨_, _, ?balance, hposted.trans (withCheck_seven ..)⟩, _, _, amount_halves opening,
    fun hs => ?keeps, fun hs => ?resets⟩
  case judged =>
    have hcheck : checkWord (r.take 7) = check a b c d e f g := checkWord_seven ..
    exact hcheck ▸ recordSound_iff r
  case balance => rw [amount_halves, satAmount_toInt]; rfl
  case keeps => rw [filledRecord_sound hs, withCheck_seven]; rfl
  case resets => rw [filledRecord_faulted hs, withCheck_seven]

/-! ## The addresses of the NV store -/

theorem evenAddr_nvWord (w : Fin 4096) : evenAddr (nvBase + 2 * w.val) = nvBase + 2 * w.val := by
  simp only [evenAddr, nvBase]
  omega

/-- The record that the progress of a fill names (R115). -/
theorem accountAddr_ofNat {n : Nat} (h : n < 128) (k : Nat) :
    accountAddr (Fin.ofNat 128 n) k = 0x20000 + 0x10 * n + 2 * k := by
  have hval : (Fin.ofNat 128 n).val = n := Nat.mod_eq_of_lt h
  rw [accountAddr, hval, nvBase]

section
variable (n : Fin 128) (k : Fin 8)

/-- Bit 0 of a controller address takes no part (R151). -/
theorem evenAddr_accountAddr_add {bit : Nat} (h : bit ≤ 1) : evenAddr (accountAddr n k.val + bit) = accountAddr n k.val := by
  simp only [evenAddr, accountAddr, nvBase]
  omega

theorem evenAddr_accountAddr : evenAddr (accountAddr n k.val) = accountAddr n k.val :=
  evenAddr_accountAddr_add n k (Nat.zero_le 1)

theorem accountOf_accountAddr : accountOf (accountAddr n k.val) = n := by
  apply Fin.ext
  simp only [accountOf, accountAddr, nvBase, Fin.val_ofNat]
  omega

theorem accountWordOf_accountAddr : accountWordOf (accountAddr n k.val) = k.val := by
  simp only [accountWordOf, accountAddr, nvBase]
  omega

theorem accountAddr_lt : accountAddr n k.val < nvBase + 0x800 := by
  simp only [accountAddr]
  omega

end

/-- The NV store lies above every window. -/
theorem inWindow_nv (straps : BitVec 2) {a : Nat} (h : nvBase ≤ a) : inWindow straps a = false := by
  have hbase := windowBase_cases straps
  simp only [nvBase] at h
  exact decide_eq_false (by omega)

/-! ## The controller's claim -/

theorem refuses_iff {n : Nv} : n.refuses = true ↔ n.gateOpen = false ∨ n.fill = .filling := by
  simp [Nv.refuses]

section
variable {b : Block}

theorem takeControllerClaim_none (h : ∀ x, b.path.bus ≠ .nvWait x) : takeControllerClaim b = b := by
  unfold takeControllerClaim
  split
  next a hbus => exact absurd hbus (h _)
  next a v hbus => exact absurd hbus (h _)
  next => rfl

theorem takeControllerClaim_read {a : Nat} (h : b.path.bus = .nvWait (.read a)) : takeControllerClaim b
    = waitAtPort .ctlNvRead [.read (evenAddr a)] (setBus (.nvTaken (.read a)) (beginClaim .ctlRead .reading false b)) := by
  simp only [takeControllerClaim, h]

section
variable {a : Nat} {v : Word} (h : b.path.bus = .nvWait (.write a v))
include h

theorem takeControllerClaim_refused (hr : b.nv.refuses = true) : takeControllerClaim b = refuse a (setBus .idle b) := by
  simp only [takeControllerClaim, h, hr, if_true]

variable (hr : ¬ b.nv.refuses = true)
include hr

theorem takeControllerClaim_check (ha : evenAddr a < nvBase + 0x800) (hk : accountWordOf (evenAddr a) = 7) :
    takeControllerClaim b = setBus .idle b := by
  simp only [takeControllerClaim, h, hr, ha, hk, Bool.false_eq_true, if_true, if_false]

theorem takeControllerClaim_account (ha : evenAddr a < nvBase + 0x800) (hk : accountWordOf (evenAddr a) ≠ 7) :
    takeControllerClaim b = waitAtPort .ctlAccountRead (recordReads (accountOf (evenAddr a)) 7)
      (setBus (.nvTaken (.write a v)) (beginClaim .ctlAccount .reading true b)) := by
  simp only [takeControllerClaim, h, hr, ha, hk, Bool.false_eq_true, if_true, if_false]

theorem takeControllerClaim_general (ha : ¬ evenAddr a < nvBase + 0x800) :
    takeControllerClaim b = waitAtPort .ctlGeneralWrite [.write (evenAddr a) v]
      (latchWords [(evenAddr a, v)] (setBus (.nvTaken (.write a v)) (beginClaim .ctlGeneral .writing false b))) := by
  simp only [takeControllerClaim, h, hr, ha, Bool.false_eq_true, if_false]

end

/-! ## The claims of the part -/

theorem takePartClaim_planning {a : Fin 128} (h : b.nv.planClaim = some a) : takePartClaim b
    = issue .planningRead (.words (recordReads a 8))
        (beginClaim .planning .reading false (b.setNv { b.nv with planClaim := none })) := by
  simp only [takePartClaim, h]

theorem takePartClaim_fill (hp : b.nv.planClaim = none) (hf : b.nv.fillClaim = true) : takePartClaim b
    = issue .fillRead (.words (recordReads (Fin.ofNat 128 b.nv.progress) 8))
        (beginClaim .fill .reading true (b.setNv { b.nv with fillClaim := false })) := by
  simp only [takePartClaim, hp, hf, if_true]

theorem takePartClaim_posting {a : Fin 128} (hp : b.nv.planClaim = none) (hf : b.nv.fillClaim = false)
    (ho : b.postingOffered = some a) : takePartClaim b
      = issue .postingRead (.words (recordReads a 8))
          (beginClaim .posting .reading true (b.setCharges { b.charges with applying := true })) := by
  simp only [takePartClaim, hp, hf, ho, Bool.false_eq_true, if_false]

theorem takePartClaim_none (hp : b.nv.planClaim = none) (hf : b.nv.fillClaim = false) (ho : b.postingOffered = none) :
    takePartClaim b = b := by
  simp only [takePartClaim, hp, hf, ho, Bool.false_eq_true, if_false]

theorem postingOffered_head {p : Posting} {q : List Posting} (hq : b.charges.queue = p :: q)
    (ha : b.charges.applying = false) (hf : b.nv.fill ≠ .filling) : b.postingOffered = some p.account := by
  simp [Block.postingOffered, hq, ha, hf]

theorem postingOffered_none_iff : b.postingOffered = none ↔
    b.nv.fill = .filling ∨ b.charges.applying = true ∨ b.charges.queue = [] := by
  rw [← Option.not_isSome_iff_eq_none, postingOffered_isSome]
  by_cases hfill : b.nv.fill = .filling <;> cases b.charges.applying <;> simp [hfill]

/-! ## What a free port takes -/

theorem refuse_bus (a : Nat) (b : Block) : (refuse a b).path.bus = b.path.bus := by
  unfold refuse
  split <;> simp

/-- A port that serves a claim is not free. -/
theorem nvFree_serving {c : Claim} (h : b.nv.serving = some c) : b.nvFree = false := by
  simp [Block.nvFree, h]

theorem nvFree_congr {c : Block} (hnv : c.nv = b.nv) (hcycle : c.nvCycle = b.nvCycle) (hreset : c.inReset = b.inReset) :
    c.nvFree = b.nvFree := by
  simp only [Block.nvFree, hnv, hcycle, hreset]

theorem nvTake_busy (h : b.nvFree = false) : nvTake b = b := by
  simp only [nvTake, h, Bool.false_eq_true, if_false]

theorem nvTake_part (hfree : b.nvFree = true) (h : ∀ x, b.path.bus ≠ .nvWait x) : nvTake b = takePartClaim b := by
  simp only [nvTake, hfree, takeControllerClaim_none h, if_true]

/-- A controller's access that the port begins to serve is all that it takes. -/
theorem nvTake_serves {c : Block} {x : Claim} (hfree : b.nvFree = true) (h : takeControllerClaim b = c)
    (hserving : c.nv.serving = some x) : nvTake b = c := by
  simp only [nvTake, hfree, h, nvFree_serving hserving, if_true, Bool.false_eq_true, if_false]

/-- From a controller's write that only leaves the bus, the port goes on as with no access there. -/
theorem nvTake_dropped {c : Block} (hfree : b.nvFree = true) (h : takeControllerClaim b = c) (hc : c.nvFree = true)
    (hbus : c.path.bus = .idle) : nvTake b = nvTake c := by
  have hnone : ∀ x, c.path.bus ≠ .nvWait x := fun x hx => Bus.noConfusion (hbus.symm.trans hx)
  rw [nvTake_part hc hnone]
  simp only [nvTake, hfree, h, hc, if_true]

/-! ## The controller's access at a free port -/

theorem nvTake_read {a : Nat} (hfree : b.nvFree = true) (h : b.path.bus = .nvWait (.read a)) : nvTake b
    = waitAtPort .ctlNvRead [.read (evenAddr a)] (setBus (.nvTaken (.read a)) (beginClaim .ctlRead .reading false b)) :=
  nvTake_serves (x := .ctlRead) hfree (takeControllerClaim_read h) rfl

section
variable {a : Nat} {v : Word} (hfree : b.nvFree = true)
include hfree

theorem nvTake_refused (h : b.path.bus = .nvWait (.write a v)) (hr : b.nv.refuses = true) :
    nvTake b = nvTake (refuse a (setBus .idle b)) := by
  refine nvTake_dropped hfree (takeControllerClaim_refused h hr) ?free ?bus
  case free => rw [nvFree_congr (b := b) (by simp) (by simp) (by simp [Block.inReset]), hfree]
  case bus => rw [refuse_bus]; rfl

theorem nvTake_general (h : b.path.bus = .nvWait (.write a v)) (hr : ¬ b.nv.refuses = true)
    (ha : nvBase + 0x800 ≤ a) : nvTake b = waitAtPort .ctlGeneralWrite [.write (evenAddr a) v]
      (latchWords [(evenAddr a, v)] (setBus (.nvTaken (.write a v)) (beginClaim .ctlGeneral .writing false b))) := by
  have heven : ¬ evenAddr a < nvBase + 0x800 := by
    simp only [nvBase, evenAddr] at ha ⊢
    omega
  exact nvTake_serves (x := .ctlGeneral) hfree (takeControllerClaim_general h hr heven) rfl

variable {n : Fin 128} {k : Fin 8} {bit : Nat} (hbit : bit ≤ 1)
  (h : b.path.bus = .nvWait (.write (accountAddr n k.val + bit) v)) (hr : ¬ b.nv.refuses = true)
include hbit h hr

theorem nvTake_check (hk : k = 7) : nvTake b = nvTake (setBus .idle b) := by
  have heven := evenAddr_accountAddr_add n k hbit
  have hword : accountWordOf (evenAddr (accountAddr n k.val + bit)) = 7 := by
    rw [heven, accountWordOf_accountAddr, hk]
    rfl
  exact nvTake_dropped hfree (takeControllerClaim_check h hr (heven.trans_lt (accountAddr_lt n k)) hword) hfree rfl

theorem nvTake_account (hk : k ≠ 7) : nvTake b = waitAtPort .ctlAccountRead (recordReads n 7)
    (setBus (.nvTaken (.write (accountAddr n k.val + bit) v)) (beginClaim .ctlAccount .reading true b)) := by
  have heven := evenAddr_accountAddr_add n k hbit
  have hword : accountWordOf (evenAddr (accountAddr n k.val + bit)) ≠ 7 := by
    rw [heven, accountWordOf_accountAddr]
    exact fun hval => hk (Fin.ext hval)
  have htake := takeControllerClaim_account h hr (heven.trans_lt (accountAddr_lt n k)) hword
  rw [heven, accountOf_accountAddr] at htake
  exact nvTake_serves (x := .ctlAccount) hfree htake rfl

end

end

/-- Settles O10: the controller's access by its kind, then the claims of the part in their order, each with those before it
absent. -/
theorem nvPortTakesInOrder : Obligations.NvPortTakesInOrder := by
  intro b reads issued taken offBus closed
  have hrefuses : b.nv.refuses = true ↔ closed := refuses_iff
  refine ⟨nvTake_busy, fun a => nvTake_read, fun a v hfree h hc => nvTake_refused hfree h (hrefuses.mpr hc),
    fun n k bit v hbit hfree hc h => ⟨nvTake_check hfree hbit h (mt hrefuses.mp hc),
      nvTake_account hfree hbit h (mt hrefuses.mp hc)⟩,
    fun a v hfree hc ha h => nvTake_general hfree h (mt hrefuses.mp hc) ha,
    fun a hfree hbus hp => ?planning, fun hfree hbus hp hf hlt => ?fill,
    fun p q hfree hbus hp hf hq ha hfill => ?posting, fun hbus hp hf ho => ?none, postingOffered_none_iff.symm⟩
  case planning => exact (nvTake_part hfree hbus).trans (takePartClaim_planning hp)
  case fill =>
    have hreads : recordReads (Fin.ofNat 128 b.nv.progress) 8 = reads b.nv.progress 8 := by
      simp only [recordReads, accountAddr_ofNat hlt, reads]
    rw [nvTake_part hfree hbus, takePartClaim_fill hp hf, hreads]
    rfl
  case posting =>
    exact (nvTake_part hfree hbus).trans (takePartClaim_posting hp hf (postingOffered_head hq ha hfill))
  case none =>
    cases hfree : b.nvFree
    · exact nvTake_busy hfree
    · rw [nvTake_part hfree hbus, takePartClaim_none hp hf ho]

/-! ## The gate and the fill -/

/-- An awake part takes a write of a stand word that is live, whatever is on the bus (log 2). -/
theorem writeAt_stand_awake {b : Block} (h : b.awake) {w : Fin 64} (hw : w ≠ 6) (v : Word) (f : Block → Block) :
    writeAt (.stand w) v f b = f b := by
  refine onBus_awake h ?_ f
  simp only [servedAtOnce, Access.addr, decodeAddr_stand, hw, ne_eq, not_false_eq_true, decide_true]

theorem exec_closeGate {s : State} (h : s.part.awake) :
    exec .closeGate s = .next ⟨s.pending, settle (closeOp s.part)⟩ := by
  have hexec : exec .closeGate s = execCloseGate s := rfl
  simp only [hexec, execCloseGate, event, writeAt_stand_awake h (w := 26) (by decide)]

theorem exec_fill {s : State} (h : s.part.awake) : exec .fill s = .next ⟨s.pending, settle (fillOp s.part)⟩ := by
  have hexec : exec .fill s = execFill s := rfl
  simp only [hexec, execFill, event, writeAt_stand_awake h (w := 27) (by decide)]

section
variable {b : Block}

/-- The end of a fill raises ACCOUNT (R116). -/
theorem endFill_eq (st : FillState) (b : Block) : endFill st b = { b with
    nv := { b.nv with fill := st, stopping := false, fillClaim := false },
    stand := { b.stand with flags := b.stand.flags ||| 0x20 } } := rfl

theorem closeOp_no_fill (h : b.nv.fill ≠ .filling) : closeOp b = b.setNv { b.nv with gateOpen := false } := by
  simp only [closeOp, h, if_false]

theorem closeOp_in_step (h : b.nv.fill = .filling) (hs : b.nv.serving = some .fill) :
    closeOp b = b.setNv { b.nv with gateOpen := false, stopping := true } := by
  simp only [closeOp, h, hs, if_true]
  rfl

theorem closeOp_between_steps (h : b.nv.fill = .filling) (hs : b.nv.serving ≠ some .fill) :
    closeOp b = endFill .stopped (b.setNv { b.nv with gateOpen := false }) := by
  simp only [closeOp, h, hs, if_true, if_false]

theorem fillAccepted_iff : b.fillAccepted = true ↔
    b.nv.gateOpen = true ∧ b.stand.st = .held ∧ b.charges.queue = [] ∧ b.nv.fill ≠ .filling := by
  simp [Block.fillAccepted, and_assoc]

theorem fillOp_accepted (h : b.fillAccepted = true) : fillOp b = b.setNv { b.nv with
    fill := .filling, fillAmount := b.nv.opening, progress := 0, stopping := false, fillClaim := true } := if_pos h

theorem fillOp_refused (h : ¬ b.fillAccepted = true) : fillOp b = refuseAt (.stand 27) b := if_neg h

/-- The block as the write cycle of a fill step leaves it, its progress risen, before the fill goes on or ends (R115). -/
def stepCounted (b : Block) : Block := (endClaim b).setNv { (endClaim b).nv with progress := b.nv.progress + 1 }

theorem fillStepDone_last (h : b.nv.progress + 1 = 128) : fillStepDone b = endFill .done (stepCounted b) := by
  simp only [fillStepDone, h, if_true, stepCounted]

theorem fillStepDone_stopping (h : b.nv.progress + 1 ≠ 128) (hs : b.nv.stopping = true) :
    fillStepDone b = endFill .stopped (stepCounted b) := by
  simp only [fillStepDone, h, hs, if_true, if_false, stepCounted]

theorem fillStepDone_next (h : b.nv.progress + 1 ≠ 128) (hs : b.nv.stopping = false) :
    fillStepDone b = (stepCounted b).setNv { (stepCounted b).nv with fillClaim := true } := by
  simp only [fillStepDone, h, hs, Bool.false_eq_true, if_false, stepCounted]

end

/-- The completion of the last access of a set, in the row of its owner. -/
theorem completing_owner {s : State} {v : Service} {o : Owner} (hport : s.part.path.port = some v) (hlast : v.last = true)
    (howner : v.owner = o) : completing (lastOf (Owner.is o)) s
      = .next ⟨s.pending, settle (ownerDone (spoilNext s.pending) o v.got (freePort s.part))⟩ := by
  rw [completing_last hport hlast (by simp [lastOf, Owner.is, hlast, howner]), howner]

theorem exec_fillStepReadComplete {s : State} {v : Service} (hport : s.part.path.port = some v) (hlast : v.last = true)
    (howner : v.owner = .fillRead) :
    exec .fillStepReadComplete s = .next ⟨s.pending, settle (fillReadDone v.got (freePort s.part))⟩ :=
  completing_owner hport hlast howner

/-- What follows the ready event of a cycle whose words have all been handed over (R108). -/
theorem onReady_next {b : Block} {c : Option Claim} {l : List (Nat × Word)} (hserving : b.nv.serving = c)
    (hcycle : b.nvCycle = some l) (hport : ∀ v, b.path.port = some v → v.acc.isNv = false) (f : Block → Block) :
    onReady c f b = settle (f (commitCycle l b)) := by
  simp only [onReady, readyCycle_some hserving hcycle hport]

theorem exec_fillStepComplete {s : State} {l : List (Nat × Word)} (hserving : s.part.nv.serving = some .fill)
    (hcycle : s.part.nvCycle = some l) (hport : ∀ v, s.part.path.port = some v → v.acc.isNv = false) :
    exec .fillStepComplete s = .next ⟨s.pending, settle (fillStepDone (commitCycle l s.part))⟩ := by
  have hexec : exec .fillStepComplete s = event (onReady (some .fill) fillStepDone) s := rfl
  simp only [hexec, event, onReady_next hserving hcycle hport]

/-- Settles O46: the two commands, the completion of a step's read, and the ready event of its write cycle. -/
theorem fillRuns : Obligations.FillRuns := by
  refine ⟨fun s h => ?commands, fun got v s hport hlast howner hgot hlt => ?read,
    fun l s hserving hcycle hport => ?ready⟩
  case commands =>
    intro n accepted
    have haccepted : s.part.fillAccepted = true ↔ accepted := fillAccepted_iff
    rw [exec_closeGate h, exec_fill h]
    refine ⟨fun hf => ?closed, fun hf hs => ?stopping, fun hf hs => ?stopped, fun ha => ?accepted, fun ha => ?refused⟩
    case closed => rw [closeOp_no_fill hf]; rfl
    case stopping => rw [closeOp_in_step hf hs]; rfl
    case stopped => rw [closeOp_between_steps hf hs, endFill_eq]; rfl
    case accepted => rw [fillOp_accepted (haccepted.mpr ha)]; rfl
    case refused => rw [fillOp_refused (mt haccepted.mp ha)]; rfl
  case read =>
    intro l
    subst hgot
    have hcycle : recordCycle (Fin.ofNat 128 s.part.nv.progress)
        (filledRecord v.got s.part.nv.fillAmount s.part.stand.day) = l := by
      simp only [recordCycle, accountAddr_ofNat hlt, l]
    have hdone : fillReadDone v.got (freePort s.part) = beginCycle .fillWrite l (freePort s.part) := by
      rw [← hcycle]
      rfl
    rw [exec_fillStepReadComplete hport hlast howner, hdone]
    rfl
  case ready =>
    intro n b ended
    rw [exec_fillStepComplete hserving hcycle hport]
    refine ⟨fun hp => ?done, fun hp hs => ?stopped, fun hp hs => ?next⟩
    case done => rw [fillStepDone_last (b := commitCycle l s.part) hp, endFill_eq]; rfl
    case stopped => rw [fillStepDone_stopping (b := commitCycle l s.part) hp hs, endFill_eq]; rfl
    case next => rw [fillStepDone_next (b := commitCycle l s.part) hp hs]; rfl

/-! ## The controller's access to the store -/

theorem setBus_same {x : Bus} {b : Block} (h : b.path.bus = x) : setBus x b = b := by
  subst h
  rfl

section
variable {s : State} (hbus : s.part.path.bus = .idle) (hreset : s.part.inReset = false)
include hbus hreset

/-- With nothing on the bus and outside reset, an access to the NV store becomes a claim, during STARTING too (R111, R175). -/
theorem event_nvAccess {x : Access} (hx : nvBase ≤ evenAddr x.addr) :
    event (fun b => settle (onBus x (nvAccess x) b)) s = .next ⟨s.pending, settle (nvAccess x s.part)⟩ := by
  have hholds : s.part.holds x = false := by simp [Block.holds, hreset, inWindow_nv _ hx]
  simp only [event, onBus_taken hbus hholds]

theorem exec_controllerNvRead (w : Fin 4096) : exec (.controllerNvRead w) s
    = .next ⟨s.pending, settle (nvAccess (.read (nvBase + 2 * w.val)) s.part)⟩ :=
  event_nvAccess hbus hreset (x := .read (nvBase + 2 * w.val)) (by simp [Access.addr, evenAddr_nvWord])

theorem exec_generalAreaWrite (w : Fin 4096) (v : Word) : exec (.generalAreaWrite w v) s
    = .next ⟨s.pending, settle (nvAccess (.write (nvBase + 2 * w.val) v) s.part)⟩ :=
  event_nvAccess hbus hreset (x := .write (nvBase + 2 * w.val) v) (by simp [Access.addr, evenAddr_nvWord])

theorem exec_accountTableWrite (a : Fin 128) (k : Fin 8) (v : Word) : exec (.accountTableWrite a k v) s
    = .next ⟨s.pending, settle (nvAccess (.write (accountAddr a k.val) v) s.part)⟩ := by
  have haddr : nvBase ≤ evenAddr (accountAddr a k.val) := by rw [evenAddr_accountAddr, accountAddr]; omega
  exact event_nvAccess hbus hreset (x := .write (accountAddr a k.val) v) haddr

end

/-- Settles O47: each access becomes a claim, which waits for a busy port and which a free port takes at once. -/
theorem storeAccessTaken : Obligations.StoreAccessTaken := by
  intro s hbus hreset n p waiting closed
  have hrefuses : s.part.nv.refuses = true ↔ closed := refuses_iff
  have hleaves (x : Access) : setBus .idle (nvAccess x s.part) = s.part := setBus_same hbus
  have hrefused {a : Nat} {v : Word} (hfree : s.part.nvFree = true) (hc : closed) :
      settle (nvAccess (.write a v) s.part) = settle (refuse a s.part) := by
    have htake := nvTake_refused (b := nvAccess (.write a v) s.part) hfree rfl (hrefuses.mpr hc)
    rw [settle, htake, hleaves]
    rfl
  refine ⟨fun w _ => exec_controllerNvRead hbus hreset w, fun w hfree => ?read, fun a k v => ?account,
    fun w v hw => ?general⟩
  case read =>
    rw [exec_controllerNvRead hbus hreset, settle, nvTake_read (b := nvAccess _ s.part) hfree rfl, evenAddr_nvWord]
    rfl
  case account =>
    intro addr
    have hwait : (nvAccess (.write (accountAddr a k.val) v) s.part).path.bus
        = .nvWait (.write (accountAddr a k.val + 0) v) := rfl
    rw [exec_accountTableWrite hbus hreset]
    refine ⟨fun _ => rfl, fun hfree hc => ?refused, fun hfree hc hk => ?check, fun hfree hc hk => ?taken⟩
    case refused => rw [hrefused hfree hc]; rfl
    case check =>
      rw [settle, nvTake_check (b := nvAccess _ s.part) hfree (Nat.zero_le 1) hwait (mt hrefuses.mp hc) hk, hleaves]
      rfl
    case taken =>
      rw [settle, nvTake_account (b := nvAccess _ s.part) hfree (Nat.zero_le 1) hwait (mt hrefuses.mp hc) hk]
      rfl
  case general =>
    intro addr
    have hval : nvBase + 2 * w.val = addr := rfl
    have haddr : nvBase + 0x800 ≤ nvBase + 2 * w.val := by omega
    rw [exec_generalAreaWrite hbus hreset]
    refine ⟨fun _ => rfl, fun hfree hc => ?refused, fun hfree hc => ?taken⟩
    case refused => rw [hrefused hfree hc]; rfl
    case taken =>
      rw [settle, nvTake_general (b := nvAccess _ s.part) hfree rfl (mt hrefuses.mp hc) haddr, evenAddr_nvWord, hval]
      rfl

/-! ## The completions of the controller's accesses -/

/-- The completed record read of a controller's account write leads to one cycle of its word and of the check over the new words
0 to 6 (R112). -/
theorem accountReadDone_eq {b : Block} {a : Fin 128} {k : Fin 8} {x : Word}
    (h : b.path.bus = .nvTaken (.write (accountAddr a k.val) x)) (got : List Word) :
    let l := [(accountAddr a k.val, x), (accountAddr a 7, ~~~ (got.set k.val x).sum)]
    accountReadDone got b = waitAtPort .ctlAccountWrite (latchWrites l) (latchWords l b) := by
  simp only [accountReadDone, h, evenAddr_accountAddr, accountOf_accountAddr, accountWordOf_accountAddr, checkWord,
    sumWords_eq_sum]

theorem exec_controllerNvReadComplete {s : State} {v : Service} (hport : s.part.path.port = some v)
    (hlast : v.last = true) (howner : v.owner = .ctlNvRead) :
    exec .controllerNvReadComplete s = .next ⟨s.pending, settle (ctlNvReadDone v.got (freePort s.part))⟩ :=
  completing_owner hport hlast howner

theorem exec_accountWriteReadComplete {s : State} {v : Service} (hport : s.part.path.port = some v)
    (hlast : v.last = true) (howner : v.owner = .ctlAccountRead) :
    exec .accountWriteReadComplete s = .next ⟨s.pending, settle (accountReadDone v.got (freePort s.part))⟩ :=
  completing_owner hport hlast howner

/-- Settles O48: the two reads, then the ready event by the claim whose cycle it ends. -/
theorem storeAccessCompletes : Obligations.StoreAccessCompletes := by
  intro s n p idle
  refine ⟨fun v w hport hlast howner hgot => ?read,
    fun v a k x w0 w1 w2 w3 w4 w5 w6 hport hlast howner hgot hbus _ => ?accountRead, fun l hcycle hport => ?ready⟩
  case read =>
    rw [exec_controllerNvReadComplete hport hlast howner, hgot]
    rfl
  case accountRead =>
    intro l
    rw [exec_accountWriteReadComplete hport hlast howner, hgot, accountReadDone_eq (b := freePort s.part) hbus]
    rfl
  case ready =>
    intro b
    have hready {c : Option Claim} (hserving : n.serving = c) (f : Block → Block) :
        event (onReady c f) s = .next ⟨s.pending, settle (f (commitCycle l s.part))⟩ := by
      simp only [event, onReady_next hserving hcycle hport]
    exact ⟨fun hs => hready hs (fun b => setBus .idle (endClaim b)),
      fun hs => hready hs (fun b => setBus .idle (endClaim b)), fun hs => hready hs id⟩

end Sys2Proof.Machine
end

section
/-! The Page Unit: labels, the pages' and frames' updates, the print queue, the selection of a frame, RETURN and DISCARD, and the
statements of chapter 7 about returned rolls. -/

namespace Sys2Proof.Machine

/-! ## Label states -/

theorem spoilable_iff {l : LabelState} : l.spoilable = true ↔ l = .due ∨ l = .unsure := by
  cases l <;> simp [LabelState.spoilable]

theorem awaits_iff {l : LabelState} : l.awaits = true ↔ l = .due ∨ l = .sent ∨ l = .unsure := by
  cases l <;> simp [LabelState.awaits]

theorem anyLabel_iff {pg : Page} {t : LabelState → Bool} :
    pg.anyLabel t = true ↔ ∃ f : Fin 72, t pg.frames[f].label = true := by
  simp only [Page.anyLabel, List.any_eq_true, Vector.mem_toList_iff, Vector.mem_iff_getElem]
  constructor
  · rintro ⟨_, ⟨i, hi, rfl⟩, ht⟩
    exact ⟨⟨i, hi⟩, ht⟩
  · rintro ⟨f, ht⟩
    exact ⟨_, ⟨f.val, f.isLt, rfl⟩, ht⟩

theorem firstDue_some_iff {pg : Page} {f : Fin 72} : pg.firstDue = some f ↔
    pg.frames[f].label = .due ∧ ∀ g : Fin 72, g < f → pg.frames[g].label ≠ .due := by
  rw [Page.firstDue, ← Fin.find?_eq_find?_finRange, Fin.find?_eq_some_iff]
  simp

theorem firstDue_none_iff {pg : Page} : pg.firstDue = none ↔ ∀ f : Fin 72, pg.frames[f].label ≠ .due := by
  simp [Page.firstDue]

/-! ## The updates of pages and frames -/

theorem setPageState_eq (p : Fin 4) (st : PageState) (b : Block) : setPageState p st b = { b with
    pages := { b.pages with pages := b.pages.pages.set p { b.pages.pages[p] with st := st } },
    path := { b.path with partList := b.path.partList
      ++ [⟨.pageWrites, .words [.write (addrOf b.path.straps (.header p 0)) (word st.code)], []⟩] } } := rfl

theorem setPosition_eq (p : Fin 4) (k : Nat) (b : Block) : setPosition p k b = { b with
    pages := { b.pages with pages := b.pages.pages.set p { b.pages.pages[p] with position := k } },
    path := { b.path with partList := b.path.partList
      ++ [⟨.pageWrites, .words [.write (addrOf b.path.straps (.header p 5)) (word k)], []⟩] } } := rfl

theorem withFrame_getFrame (p : Fin 4) (f : Fin 72) (g : Frame → Frame) (b : Block) :
    (withFrame p f g b).frame p f = g (b.frame p f) := by
  simp [Block.frame, withFrame, withPage]

theorem changeFrame_eq (p : Fin 4) (f : Fin 72) (g : Frame → Frame) (b : Block) : changeFrame p f g b = { b with
    pages := { b.pages with pages := b.pages.pages.set p { b.pages.pages[p] with
      frames := b.pages.pages[p].frames.set f (g (b.frame p f)) } },
    path := { b.path with partList := b.path.partList
      ++ [⟨.pageWrites, .words [.write (addrOf b.path.straps (.frame p f 3)) (labelWord (g (b.frame p f)))], []⟩] } } := by
  simp only [changeFrame, withFrame_getFrame]
  rfl

theorem setPosition_getPage (p q : Fin 4) (k : Nat) (b : Block) : (setPosition p k b).pages.pages[q]
    = if q = p then { b.pages.pages[q] with position := k } else b.pages.pages[q] := by
  simp only [setPosition_eq, Fin.getElem_fin, Vector.getElem_set, Fin.val_inj]
  grind

/-! ## Places in the print queue -/

theorem renumber_getPage (b : Block) (x : Fin 4 × Nat) (q : Fin 4) : (renumber b x).pages.pages[q]
    = if q = x.1 then { b.pages.pages[q] with position := x.2 + 1 } else b.pages.pages[q] := by
  unfold renumber
  split
  next hplace =>
    split
    next hq => simp only [hq, ← hplace]
    next => rfl
  next => exact setPosition_getPage _ _ _ _

/-- The write of a page's position word (R122). -/
def positionWrite (straps : BitVec 2) (q : Fin 4) (k : Nat) : WordSet :=
  ⟨.pageWrites, .words [.write (addrOf straps (.header q 5)) (word k)], []⟩

theorem renumber_path (b : Block) (x : Fin 4 × Nat) : (renumber b x).path = { b.path with
    partList := b.path.partList
      ++ if b.pages.pages[x.1].position = x.2 + 1 then [] else [positionWrite b.path.straps x.1 (x.2 + 1)] } := by
  unfold renumber
  split <;> simp [setPosition_eq, positionWrite]

theorem renumber_printQueue (b : Block) (x : Fin 4 × Nat) : (renumber b x).pages.printQueue = b.pages.printQueue := by
  unfold renumber
  split <;> rfl

theorem foldl_renumber_printQueue (l : List (Fin 4 × Nat)) (b : Block) :
    (l.foldl renumber b).pages.printQueue = b.pages.printQueue :=
  foldl_keeps (fun b => b.pages.printQueue) renumber renumber_printQueue l b

/-- The renumbering changes nothing of a page but its position. -/
theorem foldl_renumber_getPage (l : List (Fin 4 × Nat)) (b : Block) (q : Fin 4) :
    ∃ k, (l.foldl renumber b).pages.pages[q] = { b.pages.pages[q] with position := k } := by
  induction l generalizing b with
  | nil => exact ⟨_, rfl⟩
  | cons x l ih =>
    obtain ⟨k, hk⟩ := ih (renumber b x)
    refine ⟨k, ?_⟩
    rw [List.foldl_cons, hk, renumber_getPage]
    split <;> rfl

theorem foldl_renumber_getPage_not_mem {l : List (Fin 4 × Nat)} {q : Fin 4} (h : q ∉ l.map Prod.fst) (b : Block) :
    (l.foldl renumber b).pages.pages[q] = b.pages.pages[q] := by
  refine List.foldlRecOn (motive := fun c => c.pages.pages[q] = b.pages.pages[q]) l renumber rfl fun c hc x hx => ?_
  have hne : q ≠ x.1 := fun hq => h (List.mem_map.mpr ⟨x, hx, hq.symm⟩)
  rw [renumber_getPage, if_neg hne, hc]

theorem foldl_renumber_position {l : List (Fin 4 × Nat)} (hl : (l.map Prod.fst).Nodup) {x : Fin 4 × Nat} (hx : x ∈ l)
    (b : Block) : (l.foldl renumber b).pages.pages[x.1].position = x.2 + 1 := by
  induction l generalizing b with
  | nil => cases hx
  | cons y l ih =>
    obtain ⟨hy, hnodup⟩ := List.nodup_cons.mp hl
    rw [List.foldl_cons]
    rcases List.mem_cons.mp hx with rfl | hx
    · rw [foldl_renumber_getPage_not_mem hy, renumber_getPage, if_pos rfl]
    · exact ih hnodup hx _

/-- The writes of the renumbering: one for each page whose place has changed, in the order of the list. -/
theorem foldl_renumber_path {l : List (Fin 4 × Nat)} (hl : (l.map Prod.fst).Nodup) (b : Block) :
    (l.foldl renumber b).path = { b.path with partList := b.path.partList
      ++ (l.filter (fun x => decide (b.pages.pages[x.1].position ≠ x.2 + 1))).map (fun x =>
        positionWrite b.path.straps x.1 (x.2 + 1)) } := by
  induction l generalizing b with
  | nil => simp
  | cons x l ih =>
    obtain ⟨hx, hnodup⟩ := List.nodup_cons.mp hl
    have hsame (y : Fin 4 × Nat) (hy : y ∈ l) : (renumber b x).pages.pages[y.1] = b.pages.pages[y.1] := by
      rw [renumber_getPage, if_neg fun h => hx (List.mem_map.mpr ⟨y, hy, h⟩)]
    have hfilter : l.filter (fun y => decide ((renumber b x).pages.pages[y.1].position ≠ y.2 + 1))
        = l.filter (fun y => decide (b.pages.pages[y.1].position ≠ y.2 + 1)) :=
      List.filter_congr fun y hy => by rw [hsame y hy]
    rw [List.foldl_cons, ih hnodup, hfilter, renumber_path]
    by_cases hplace : b.pages.pages[x.1].position = x.2 + 1 <;> simp [hplace, -Fin.getElem_fin]

/-! ## A page leaves the print queue -/

theorem leaveQueue_printQueue (p : Fin 4) (b : Block) :
    (leaveQueue p b).pages.printQueue = b.pages.printQueue.filter (fun q => decide (q ≠ p)) := by
  rw [leaveQueue, setPosition_eq]
  exact foldl_renumber_printQueue _ _

theorem leaveQueue_getPage (p q : Fin 4) (b : Block) :
    ∃ k, (leaveQueue p b).pages.pages[q] = { b.pages.pages[q] with position := k } := by
  obtain ⟨k, hk⟩ := foldl_renumber_getPage (b.pages.printQueue.filter (fun x => decide (x ≠ p))).zipIdx
    (setPrintQueue (b.pages.printQueue.filter (fun x => decide (x ≠ p))) b) q
  rw [leaveQueue, setPosition_getPage, hk]
  split
  · exact ⟨0, rfl⟩
  · exact ⟨k, rfl⟩

theorem leaveQueue_position_self (p : Fin 4) (b : Block) : (leaveQueue p b).pages.pages[p].position = 0 := by
  rw [leaveQueue, setPosition_getPage, if_pos rfl]

section
variable {b : Block} (hnodup : b.pages.printQueue.Nodup) (p : Fin 4)
include hnodup

theorem rest_fst_nodup : (((b.pages.printQueue.filter (fun x => decide (x ≠ p))).zipIdx).map Prod.fst).Nodup := by
  rw [List.zipIdx_map_fst]
  exact hnodup.filter _

theorem leaveQueue_position {i : Nat} {q : Fin 4} (hi : (leaveQueue p b).pages.printQueue[i]? = some q) :
    (leaveQueue p b).pages.pages[q].position = i + 1 := by
  rw [leaveQueue_printQueue] at hi
  have hne : q ≠ p := by
    have hmem := List.mem_of_getElem? hi
    exact of_decide_eq_true (List.mem_filter.mp hmem).2
  rw [leaveQueue, setPosition_getPage, if_neg hne]
  exact foldl_renumber_position (rest_fst_nodup hnodup p) (x := (q, i)) (List.mem_zipIdx_iff_getElem?.mpr hi) _

theorem leaveQueue_path : (leaveQueue p b).path = { b.path with partList := b.path.partList
    ++ ((b.pages.printQueue.filter (fun x => decide (x ≠ p))).zipIdx.filter
        (fun x => decide (b.pages.pages[x.1].position ≠ x.2 + 1))).map (fun x => positionWrite b.path.straps x.1 (x.2 + 1))
    ++ [positionWrite b.path.straps p 0] } := by
  rw [leaveQueue, setPosition_eq]
  dsimp only
  rw [foldl_renumber_path (rest_fst_nodup hnodup p)]
  rfl

end

/-! ## The test of the head page -/

/-- The head page becomes FREE and leaves the queue (R123). -/
def headFreed (p : Fin 4) (b : Block) : Block := raise .page (leaveQueue p (setPageState p .free b))

theorem headFreed_printQueue (p : Fin 4) (b : Block) :
    (headFreed p b).pages.printQueue = b.pages.printQueue.filter (fun q => decide (q ≠ p)) :=
  leaveQueue_printQueue p _

theorem completeHead_empty {b : Block} (h : b.pages.printQueue = []) (fuel : Nat) : completeHead fuel b = b := by
  cases fuel <;> simp [completeHead, h]

theorem completeHead_waits {b : Block} {p : Fin 4} {tail : List (Fin 4)} (hq : b.pages.printQueue = p :: tail)
    (h : b.pages.pages[p].anyLabel LabelState.awaits = true) (fuel : Nat) : completeHead fuel b = b := by
  cases fuel with
  | zero => rfl
  | succ fuel => simp only [completeHead, hq, h, if_true]

theorem completeHead_frees {b : Block} {p : Fin 4} {tail : List (Fin 4)} (hq : b.pages.printQueue = p :: tail)
    (h : ¬ b.pages.pages[p].anyLabel LabelState.awaits = true) (fuel : Nat) :
    completeHead (fuel + 1) b = completeHead fuel (headFreed p b) := by
  simp only [completeHead, hq, if_neg h]
  rfl

/-- A queue is tested to its end by as many tests as it holds pages. -/
theorem completeHead_succ {fuel : Nat} {b : Block} (h : b.pages.printQueue.length ≤ fuel) :
    completeHead (fuel + 1) b = completeHead fuel b := by
  induction fuel generalizing b with
  | zero =>
    have hq := List.length_eq_zero_iff.mp (Nat.le_zero.mp h)
    rw [completeHead_empty hq, completeHead_empty hq]
  | succ fuel ih =>
    cases hq : b.pages.printQueue with
    | nil => rw [completeHead_empty hq, completeHead_empty hq]
    | cons p tail =>
      by_cases hany : b.pages.pages[p].anyLabel LabelState.awaits = true
      · rw [completeHead_waits hq hany, completeHead_waits hq hany]
      · have hlength : (headFreed p b).pages.printQueue.length ≤ fuel := by
          rw [hq, List.length_cons] at h
          rw [headFreed_printQueue, hq, List.filter_cons_of_neg (by simp)]
          have := List.length_filter_le (fun q => decide (q ≠ p)) tail
          omega
        rw [completeHead_frees hq hany, completeHead_frees hq hany, ih hlength]

/-- A complete head page is freed and the test is made again (R123). -/
theorem testHead_frees {b : Block} {p : Fin 4} {tail : List (Fin 4)} (hq : b.pages.printQueue = p :: tail)
    (hlength : tail.length ≤ 3) (h : ¬ b.pages.pages[p].anyLabel LabelState.awaits = true) :
    testHead b = testHead (headFreed p b) := by
  have hshort : (headFreed p b).pages.printQueue.length ≤ 3 := by
    rw [headFreed_printQueue, hq, List.filter_cons_of_neg (by simp)]
    exact (List.length_filter_le _ _).trans hlength
  rw [testHead, completeHead_frees hq h, testHead, completeHead_succ hshort]

/-! ## The selection of a frame -/

theorem selectFrame_busy {b : Block} (h : b.link.st ≠ .idle) : selectFrame b = b := if_neg h

theorem selectFrame_empty {b : Block} (h : b.pages.printQueue = []) : selectFrame b = b := by
  simp only [selectFrame, h, ite_self]

theorem selectFrame_head {b : Block} {p : Fin 4} {tail : List (Fin 4)} (hidle : b.link.st = .idle)
    (hq : b.pages.printQueue = p :: tail) {o : Option (Fin 72)} (h : b.pages.pages[p].firstDue = o) :
    selectFrame b = o.elim b (fun f => sendFrame p f b) := by
  subst h
  simp only [selectFrame, hidle, hq, if_true]
  cases b.pages.pages[p].firstDue <;> rfl

theorem sendFrame_eq (p : Fin 4) (f : Fin 72) (b : Block) :
    let sent : Frame := { b.frame p f with label := .sent, attempts := min 3 ((b.frame p f).attempts + 1) }
    sendFrame p f b = { b with
      pages := { b.pages with
        pages := b.pages.pages.set p { b.pages.pages[p] with frames := b.pages.pages[p].frames.set f sent },
        composing := true },
      link := { b.link with st := .sending, message := some (p, f), bytes := [], next := 0 },
      path := { b.path with partList := b.path.partList
        ++ [⟨.pageWrites, .words [.write (addrOf b.path.straps (.frame p f 3)) (labelWord sent)], []⟩,
          ⟨.compose p f, .compose p f, []⟩] } } := by
  simp only [sendFrame, changeFrame_eq, issue, setPages_path, setLink_path, List.append_assoc]
  rfl

/-- Settles O50: what leaves the queue, what the test of its head does, and what a selection takes. -/
theorem printQueueServed : Obligations.PrintQueueServed := by
  refine ⟨fun p b => ?leave,
    fun b => ⟨fun hq => completeHead_empty hq 4, fun p tail hq h => ?waits, fun p tail hq hp hlength h => ?frees⟩,
    fun b => ⟨fun h => ?none, fun p tail hq h => ?noDue, fun p tail f hidle hq hdue hfirst => ?sends⟩⟩
  case leave =>
    intro c rest position
    refine ⟨leaveQueue_printQueue p b, leaveQueue_position_self p b, fun h i q hi => leaveQueue_position h p hi,
      fun h => leaveQueue_path h p, fun q => ?_, by simp [c], by simp [c], by simp [c], by simp [c]⟩
    obtain ⟨k, hk⟩ := leaveQueue_getPage p q b
    rw [hk]
  case waits =>
    obtain ⟨f, hf⟩ := h
    exact completeHead_waits hq (anyLabel_iff.mpr ⟨f, awaits_iff.mpr hf⟩) 4
  case frees =>
    intro c
    have hcomplete : ¬ b.pages.pages[p].anyLabel LabelState.awaits = true := by
      rw [anyLabel_iff]
      rintro ⟨f, hf⟩
      obtain ⟨hdue, hsent, hunsure⟩ := h f
      exact (awaits_iff.mp hf).elim hdue fun hx => hx.elim hsent hunsure
    have hstand : c.stand = b.stand := by simp [c]
    refine ⟨?_, ?_, ?_⟩
    · obtain ⟨k, hk⟩ := leaveQueue_getPage p p (setPageState p .free b)
      rw [hk]
      simp [setPageState_eq]
    · have htail : ∀ q ∈ tail, ¬ q = p := fun q hmem hqp => hp (hqp ▸ hmem)
      rw [leaveQueue_printQueue, setPageState_eq]
      simpa [hq] using htail
    · rw [testHead_frees hq hlength hcomplete, ← hstand]
      rfl
  case none =>
    rcases h with h | h
    · exact selectFrame_busy h
    · exact selectFrame_empty h
  case noDue =>
    by_cases hidle : b.link.st = .idle
    · exact selectFrame_head hidle hq (firstDue_none_iff.mpr h)
    · exact selectFrame_busy hidle
  case sends =>
    intro fr tries record
    rw [selectFrame_head hidle hq (firstDue_some_iff.mpr ⟨hdue, hfirst⟩)]
    exact sendFrame_eq p f b

/-! ## RETURN and DISCARD -/

theorem exec_returnPage {s : State} (h : s.part.reached) (p : Fin 4) :
    exec (.returnPage p) s = .next ⟨s.pending, settle (returnOp p s.part)⟩ := by
  have hexec : exec (.returnPage p) s = execReturn p s := rfl
  simp only [hexec, execReturn, event, writeAt_reached h]

theorem exec_discard {s : State} (h : s.part.reached) (p : Fin 4) :
    exec (.discard p) s = .next ⟨s.pending, settle (discardOp p s.part)⟩ := by
  have hexec : exec (.discard p) s = execDiscard p s := rfl
  simp only [hexec, execDiscard, event, writeAt_reached h]

section
variable {p : Fin 4} {b : Block}

/-- A page with labels to print becomes RETURNED at the tail of the print queue (R121, R122). -/
theorem returnOp_toPrint (hst : b.pages.pages[p].st = .exposed)
    (h : b.pages.pages[p].anyLabel LabelState.spoilable = true) : returnOp p b = selectFrame (testHead { b with
      pages := { b.pages with
        pages := b.pages.pages.set p
          { b.pages.pages[p] with st := .returned, position := b.pages.printQueue.length + 1 },
        printQueue := b.pages.printQueue ++ [p] },
      path := { b.path with partList := b.path.partList
        ++ [⟨.pageWrites, .words [.write (addrOf b.path.straps (.header p 0)) 3], []⟩,
          positionWrite b.path.straps p (b.pages.printQueue.length + 1)] } }) := by
  rw [returnOp, if_pos hst, if_pos h]
  simp only [setPosition_eq, setPrintQueue, setPageState_eq, Block.setPages, Fin.getElem_fin, Vector.getElem_set_self,
    Vector.set_set, List.append_assoc, List.length_append, List.length_singleton]
  rfl

theorem returnOp_complete (hst : b.pages.pages[p].st = .exposed)
    (h : ¬ b.pages.pages[p].anyLabel LabelState.spoilable = true) :
    returnOp p b = raise .page (setPageState p .free b) := by
  simp only [returnOp, if_pos hst, if_neg h]

theorem returnOp_refused (hst : b.pages.pages[p].st ≠ .exposed) : returnOp p b = refuseAt (.header p 7) b := if_neg hst

theorem onWire_iff : onWire b p = true ↔
    (b.link.st = .sending ∨ b.link.st = .awaiting) ∧ ∃ f, b.link.message = some (p, f) := by
  simp [onWire, Option.any_eq_true]

theorem joinWalk_empty (h : b.pages.walkQueue = []) : joinWalk p b = walk (setWalk [p] 1 b) := by
  simp only [joinWalk, h, List.isEmpty_nil, if_true]

theorem joinWalk_waits (h : b.pages.walkQueue ≠ []) :
    joinWalk p b = setWalk (b.pages.walkQueue ++ [p]) b.pages.walkPos b :=
  if_neg (mt List.isEmpty_iff.mp h)

theorem discardOp_exposed (hst : b.pages.pages[p].st = .exposed) (h : ¬ onWire b p = true) :
    discardOp p b = selectFrame (joinWalk p (setPageState p .discarding b)) := by
  simp [discardOp, hst, h, -Fin.getElem_fin]

theorem discardOp_returned (hst : b.pages.pages[p].st = .returned) (h : ¬ onWire b p = true) :
    discardOp p b = selectFrame (joinWalk p (testHead (leaveQueue p (setPageState p .discarding b)))) := by
  simp [discardOp, hst, h, -Fin.getElem_fin]

theorem discardOp_refused (h : (b.pages.pages[p].st ≠ .exposed ∧ b.pages.pages[p].st ≠ .returned) ∨ onWire b p = true) :
    discardOp p b = refuseAt (.header p 7) b := by
  refine if_neg fun hall => ?_
  obtain ⟨hst, hwire⟩ := hall
  rcases h with ⟨hexposed, hreturned⟩ | h
  · exact hst.elim hexposed hreturned
  · rw [h] at hwire
    cases hwire

end

/-- Settles O49: RETURN by the page's state and its labels, DISCARD by its state and the wire. -/
theorem pagesReturnedAndDiscarded : Obligations.PagesReturnedAndDiscarded := by
  intro p s hreached pg head word0 waits toPrint place wire leaves walks answers
  have hprint : pg.anyLabel LabelState.spoilable = true ↔ toPrint := by
    simp only [anyLabel_iff, spoilable_iff]
    rfl
  have hwalks (b : Block) : joinWalk p b = walks b := by
    by_cases h : b.pages.walkQueue = []
    · exact (joinWalk_empty h).trans (if_pos h).symm
    · exact (joinWalk_waits h).trans (if_neg h).symm
  simp only [answers, exec_returnPage hreached, exec_discard hreached, ← hwalks]
  refine ⟨fun hst h => ?toPrint, fun hst h => ?complete, fun hst => ?refused, fun hst h => ?exposed, fun hst h => ?returned,
    fun h => ?notDiscarded⟩
  case toPrint => rw [returnOp_toPrint hst (hprint.mpr h)]; rfl
  case complete => rw [returnOp_complete hst (mt hprint.mp h)]; rfl
  case refused => rw [returnOp_refused hst]; rfl
  case exposed => rw [discardOp_exposed hst (mt onWire_iff.mp h)]; rfl
  case returned => rw [discardOp_returned hst (mt onWire_iff.mp h)]; rfl
  case notDiscarded => rw [discardOp_refused (h.imp_right onWire_iff.mpr)]; rfl

end Sys2Proof.Machine
end

section
/-! The discard walk and the label commands: what a spoiled frame leaves, the walk step by step and where it ends, SPOIL, REPRINT and
ACCEPT, and the statements of chapter 7 about labels. -/

namespace Sys2Proof.Machine

/-! ## A spoiled frame -/

/-- The use counts after a change of a template's (R131). -/
def useCountAfter (t : Option (Fin 16)) (g : Nat → Nat) (counts : Vector Nat 16) : Vector Nat 16 :=
  t.elim counts fun t => counts.set t (g counts[t])

theorem withUseCount_eq (t : Option (Fin 16)) (g : Nat → Nat) (b : Block) : withUseCount t g b = { b with
    pages := { b.pages with useCount := useCountAfter t g b.pages.useCount } } := by
  cases t <;> rfl

theorem useCountAfter_pred (t : Option (Fin 16)) (b : Block) (u : Fin 16) :
    (useCountAfter t (fun n => n - 1) b.pages.useCount)[u] = b.pages.useCount[u] - (if t = some u then 1 else 0) := by
  have hcount := withUseCount_useCount t (fun n => n - 1) b u
  rw [withUseCount_eq] at hcount
  rw [hcount]
  split <;> rfl

theorem spoilFrame_eq (p : Fin 4) (f : Fin 72) (b : Block) :
    let fr := b.frame p f
    let spoiled : Frame := { fr with label := .spoiled }
    spoilFrame p f b = { b with
      pages := { b.pages with
        pages := b.pages.pages.set p { b.pages.pages[p] with frames := b.pages.pages[p].frames.set f spoiled },
        useCount := useCountAfter fr.template (fun n => n - 1) b.pages.useCount },
      charges := { b.charges with queue := b.charges.queue
        ++ [{ account := fr.account, delta := fr.amount, kind := .credit, page := p, frame := f }] },
      path := { b.path with partList := b.path.partList
        ++ [⟨.pageWrites, .words [.write (addrOf b.path.straps (.frame p f 3)) (labelWord spoiled)], []⟩] } } := by
  simp only [spoilFrame, changeFrame_eq, withUseCount_eq]
  rfl

theorem spoilFrame_walkQueue (p : Fin 4) (f : Fin 72) (b : Block) :
    (spoilFrame p f b).pages.walkQueue = b.pages.walkQueue := by
  rw [spoilFrame_eq]

theorem spoilFrame_used (p q : Fin 4) (f : Fin 72) (b : Block) :
    (spoilFrame p f b).pages.pages[q].used = b.pages.pages[q].used := by
  simp only [spoilFrame_eq, Fin.getElem_fin, Vector.getElem_set, Fin.val_inj]
  split
  next h => rw [h]
  next => rfl

theorem spoilFrame_frame_self (p : Fin 4) (f : Fin 72) (b : Block) :
    (spoilFrame p f b).frame p f = { b.frame p f with label := .spoiled } := by
  simp [spoilFrame_eq, Block.frame]

theorem spoilFrame_frame_other {p q : Fin 4} {f g : Fin 72} (h : ¬ (q = p ∧ g = f)) (b : Block) :
    (spoilFrame p f b).frame q g = b.frame q g := by
  simp only [spoilFrame_eq, Block.frame, Fin.getElem_fin, Vector.getElem_set, Fin.val_inj]
  split
  next hp =>
    subst hp
    have hf : f ≠ g := fun hf => h ⟨rfl, hf.symm⟩
    simp [Fin.val_inj, hf]
  next => rfl

/-! ## The walk step by step -/

/-- The walk's position alone changes. -/
def walkTo (k : Nat) (b : Block) : Block := { b with pages := { b.pages with walkPos := k } }

theorem setWalk_same {b : Block} {q : List (Fin 4)} (h : b.pages.walkQueue = q) (k : Nat) : setWalk q k b = walkTo k b := by
  subst h
  rfl

theorem walkOn_empty {b : Block} (h : b.pages.walkQueue = []) (fuel : Nat) : walkOn fuel b = b := by
  cases fuel <;> simp [walkOn, h]

theorem walk_empty {b : Block} (h : b.pages.walkQueue = []) : walk b = b := walkOn_empty h 292

theorem walkOn_pageEnd {b : Block} {p : Fin 4} {rest : List (Fin 4)} (hq : b.pages.walkQueue = p :: rest)
    (h : b.pages.pages[p].used < b.pages.walkPos) (fuel : Nat) :
    walkOn (fuel + 1) b = walkOn fuel (endWalk p rest b) := by
  simp only [walkOn, hq, if_pos h]

theorem endWalk_eq (p : Fin 4) (rest : List (Fin 4)) (b : Block) : endWalk p rest b = { b with
    pages := { b.pages with
      pages := b.pages.pages.set p { b.pages.pages[p] with st := .free }, walkQueue := rest,
      walkPos := if rest = [] then 0 else 1 },
    path := { b.path with partList := b.path.partList
      ++ [⟨.pageWrites, .words [.write (addrOf b.path.straps (.header p 0)) 0], []⟩] },
    stand := { b.stand with flags := b.stand.flags ||| 0x08 } } := by
  cases rest <;> rfl

/-- The walk stands at a frame within the frames used of its head page. -/
def Block.walksAt (b : Block) (p : Fin 4) (rest : List (Fin 4)) (f : Fin 72) : Prop :=
  b.pages.walkQueue = p :: rest ∧ b.pages.walkPos = f.val + 1 ∧ f.val + 1 ≤ b.pages.pages[p].used

section
variable {b : Block} {p : Fin 4} {rest : List (Fin 4)} {f : Fin 72} (h : b.walksAt p rest f) (fuel : Nat)
include h

theorem walkOn_walksAt : walkOn (fuel + 1) b = if (b.frame p f).label.spoilable then
      if b.hasRoom then
        walkOn fuel (setWalk (p :: rest) (b.pages.walkPos + 1) (spoilFrame p f b)) else b
    else walkOn fuel (setWalk (p :: rest) (b.pages.walkPos + 1) b) := by
  obtain ⟨hq, hpos, hused⟩ := h
  have hf : Fin.ofNat 72 (b.pages.walkPos - 1) = f := Fin.ext (by simp [hpos])
  have hnot : ¬ b.pages.pages[p].used < b.pages.walkPos := by omega
  simp only [walkOn, hq, if_neg hnot, hf]

theorem walkOn_passes (hs : ¬ (b.frame p f).label.spoilable = true) :
    walkOn (fuel + 1) b = walkOn fuel (walkTo (b.pages.walkPos + 1) b) := by
  rw [walkOn_walksAt h, if_neg hs, setWalk_same h.1]

theorem walkOn_spoils (hs : (b.frame p f).label.spoilable = true) (hroom : b.hasRoom = true) :
    walkOn (fuel + 1) b = walkOn fuel (walkTo (b.pages.walkPos + 1) (spoilFrame p f b)) := by
  rw [walkOn_walksAt h, if_pos hs, if_pos hroom, setWalk_same ((spoilFrame_walkQueue p f b).trans h.1)]

theorem walkOn_waits (hs : (b.frame p f).label.spoilable = true) (hroom : ¬ b.hasRoom = true) :
    walkOn (fuel + 1) b = b := by
  rw [walkOn_walksAt h, if_pos hs, if_neg hroom]

end

/-! ## Where the walk ends -/

/-- The walk has come to one of its ends: no page is walked, or it waits for room at a frame to be spoiled (R125). -/
def Block.walkRests (b : Block) : Prop :=
  b.pages.walkQueue = [] ∨ ∃ p rest f, b.walksAt p rest f ∧ (b.frame p f).label.spoilable = true ∧ ¬ b.hasRoom = true

/-- A frame before and after the walk: as it was, or spoiled. -/
def Frame.walkedTo (old new : Frame) : Prop := new = old ∨ (old.label.spoilable = true ∧ new = { old with label := .spoiled })

theorem walkedTo_trans {x y z : Frame} (hxy : x.walkedTo y) (hyz : y.walkedTo z) : x.walkedTo z := by
  rcases hxy with rfl | ⟨hx, rfl⟩
  · exact hyz
  · rcases hyz with rfl | ⟨hspoiled, -⟩
    · exact .inr ⟨hx, rfl⟩
    · cases hspoiled

/-- A bound on the steps the walk has left: 72 positions and an end for each page in the queue, less the positions passed. -/
def Block.walkLeft (b : Block) : Nat :=
  if b.pages.walkQueue = [] then 0 else 73 * (b.pages.walkQueue.length - 1) + 1 + (73 - b.pages.walkPos)

theorem walkLeft_cons {b : Block} {p : Fin 4} {rest : List (Fin 4)} (h : b.pages.walkQueue = p :: rest) :
    b.walkLeft = 73 * rest.length + 1 + (73 - b.pages.walkPos) := by
  simp [Block.walkLeft, h]

/-- What the walk needs to come to an end, and a run keeps: no page has more than its 72 frames used, a walk has a position. -/
def Block.walkable (b : Block) : Prop :=
  (∀ p : Fin 4, b.pages.pages[p].used ≤ 72) ∧ (b.pages.walkQueue ≠ [] → 1 ≤ b.pages.walkPos)

/-- What one step of the walk does: it leaves a walk with fewer steps to go, and spoils frames at most. -/
structure WalkStep (b c : Block) : Prop where
  walkable : c.walkable
  fewer : c.walkLeft < b.walkLeft
  frames : ∀ (p : Fin 4) (f : Fin 72), (b.frame p f).walkedTo (c.frame p f)

theorem endWalk_getPage (p q : Fin 4) (rest : List (Fin 4)) (b : Block) :
    (endWalk p rest b).pages.pages[q].used = b.pages.pages[q].used
      ∧ (endWalk p rest b).pages.pages[q].frames = b.pages.pages[q].frames := by
  simp only [endWalk_eq, Fin.getElem_fin, Vector.getElem_set, Fin.val_inj]
  split
  next h => subst h; exact ⟨rfl, rfl⟩
  next => exact ⟨rfl, rfl⟩

theorem walkStep_pageEnd {b : Block} {p : Fin 4} {rest : List (Fin 4)} (hb : b.walkable) (hq : b.pages.walkQueue = p :: rest) :
    WalkStep b (endWalk p rest b) where
  walkable := by
    refine ⟨fun q => (endWalk_getPage p q rest b).1 ▸ hb.1 q, fun h => ?_⟩
    rw [endWalk_eq] at h ⊢
    exact (if_neg h).ge
  fewer := by
    rw [walkLeft_cons hq]
    cases rest with
    | nil => simp [Block.walkLeft, endWalk_eq]
    | cons q rest =>
      rw [walkLeft_cons (b := endWalk p (q :: rest) b) (by rw [endWalk_eq])]
      simp only [endWalk_eq, List.length_cons, reduceCtorEq, if_false]
      omega
  frames q g := .inl (by simp only [Block.frame, (endWalk_getPage p q rest b).2])

/-- The walk passes its position, on a block with the same pages in the queue. -/
theorem walkStep_past {b c : Block} {p : Fin 4} {rest : List (Fin 4)} {f : Fin 72} (hb : b.walkable) (h : b.walksAt p rest f)
    (hq : c.pages.walkQueue = b.pages.walkQueue) (hused : ∀ q : Fin 4, c.pages.pages[q].used = b.pages.pages[q].used)
    (hframes : ∀ (q : Fin 4) (g : Fin 72), (b.frame q g).walkedTo (c.frame q g)) :
    WalkStep b (walkTo (b.pages.walkPos + 1) c) where
  walkable := ⟨fun q => (hused q) ▸ hb.1 q, fun _ => Nat.le_add_left 1 _⟩
  fewer := by
    obtain ⟨hbq, hpos, -⟩ := h
    have hleft : (walkTo (b.pages.walkPos + 1) c).walkLeft = 73 * rest.length + 1 + (73 - (b.pages.walkPos + 1)) :=
      walkLeft_cons (hq.trans hbq)
    rw [hleft, walkLeft_cons hbq]
    omega
  frames := hframes

theorem walkStep_spoils {b : Block} {p : Fin 4} {rest : List (Fin 4)} {f : Fin 72} (hb : b.walkable) (h : b.walksAt p rest f)
    (hs : (b.frame p f).label.spoilable = true) :
    WalkStep b (walkTo (b.pages.walkPos + 1) (spoilFrame p f b)) := by
  refine walkStep_past hb h (spoilFrame_walkQueue p f b) (fun q => spoilFrame_used p q f b) fun q g => ?_
  by_cases hqg : q = p ∧ g = f
  · obtain ⟨rfl, rfl⟩ := hqg
    exact .inr ⟨hs, spoilFrame_frame_self q g b⟩
  · exact .inl (spoilFrame_frame_other hqg b)

/-- The walk rests where it is, or makes a step and goes on. -/
theorem walkOn_cases {b : Block} (hb : b.walkable) (fuel : Nat) :
    (b.walkRests ∧ walkOn (fuel + 1) b = b) ∨ ∃ c, WalkStep b c ∧ walkOn (fuel + 1) b = walkOn fuel c := by
  cases hq : b.pages.walkQueue with
  | nil => exact .inl ⟨.inl hq, walkOn_empty hq _⟩
  | cons p rest =>
    by_cases hend : b.pages.pages[p].used < b.pages.walkPos
    · exact .inr ⟨_, walkStep_pageEnd hb hq, walkOn_pageEnd hq hend fuel⟩
    · obtain ⟨hused, hpos⟩ := hb
      have hpos' : 1 ≤ b.pages.walkPos := hpos (by simp [hq])
      have hused' := hused p
      have hat : b.walksAt p rest ⟨b.pages.walkPos - 1, by omega⟩ := ⟨hq, by dsimp only; omega, by dsimp only; omega⟩
      by_cases hs : (b.frame p ⟨b.pages.walkPos - 1, by omega⟩).label.spoilable = true
      · by_cases hroom : b.hasRoom = true
        · exact .inr ⟨_, walkStep_spoils ⟨hused, hpos⟩ hat hs, walkOn_spoils hat fuel hs hroom⟩
        · exact .inl ⟨.inr ⟨p, rest, _, hat, hs, hroom⟩, walkOn_waits hat fuel hs hroom⟩
      · exact .inr ⟨_, walkStep_past ⟨hused, hpos⟩ hat rfl (fun _ => rfl) (fun _ _ => .inl rfl), walkOn_passes hat fuel hs⟩

/-- With fuel for the steps it has left, the walk comes to an end, and it has only spoiled frames. -/
theorem walkOn_rests {fuel : Nat} {b : Block} (hb : b.walkable) (hfuel : b.walkLeft ≤ fuel) :
    (walkOn fuel b).walkRests ∧ ∀ (p : Fin 4) (f : Fin 72), (b.frame p f).walkedTo ((walkOn fuel b).frame p f) := by
  induction fuel generalizing b with
  | zero =>
    refine ⟨.inl ?_, fun _ _ => .inl rfl⟩
    by_contra hq
    have hwalks : b.pages.walkQueue ≠ [] := hq
    rw [Block.walkLeft, if_neg hwalks] at hfuel
    omega
  | succ fuel ih =>
    rcases walkOn_cases hb fuel with ⟨hrests, hstays⟩ | ⟨c, hstep, hgoes⟩
    · rw [hstays]
      exact ⟨hrests, fun _ _ => .inl rfl⟩
    · obtain ⟨hrests, hframes⟩ := ih hstep.walkable (Nat.le_of_lt_succ (hstep.fewer.trans_le hfuel))
      rw [hgoes]
      exact ⟨hrests, fun p f => walkedTo_trans (hstep.frames p f) (hframes p f)⟩

/-- Four pages of 72 positions and an end each. -/
theorem walkLeft_le {b : Block} (hlength : b.pages.walkQueue.length ≤ 4) (hb : b.walkable) : b.walkLeft ≤ 292 := by
  unfold Block.walkLeft
  split
  · omega
  · next hq =>
    have := hb.2 hq
    omega

/-- Settles O51: a spoiled frame, the steps of the walk, and its two ends. -/
theorem discardWalkSpoils : Obligations.DiscardWalkSpoils := by
  refine ⟨fun p f b => ?spoiled, fun fuel b => ?steps, fun b hlength hused hpos => ?ends⟩
  case spoiled =>
    intro fr c
    have hc : c = _ := spoilFrame_eq p f b
    rw [hc]
    exact ⟨rfl, useCountAfter_pred _ b, rfl, rfl, rfl, rfl, rfl, rfl, rfl, rfl, rfl, rfl⟩
  case steps =>
    intro at' spoilable room past
    refine ⟨rfl, fun h => walkOn_empty h _, fun p rest hq h => ?_,
      fun p rest f hat hs => walkOn_passes hat fuel (mt spoilable_iff.mp hs),
      fun p rest f hat hs hroom => walkOn_spoils hat fuel (spoilable_iff.mpr hs) (hasRoom_iff.mpr hroom),
      fun p rest f hat hs hroom => walkOn_waits hat fuel (spoilable_iff.mpr hs) (mt hasRoom_iff.mp hroom)⟩
    rw [walkOn_pageEnd hq h, endWalk_eq]
  case ends =>
    intro c
    obtain ⟨hrests, hframes⟩ := walkOn_rests ⟨hused, hpos⟩ (walkLeft_le hlength ⟨hused, hpos⟩)
    refine ⟨?_, fun p f => ?_, by simp [c], by simp [c], by simp [c], by simp [c], by simp [c], by simp [c]⟩
    · rcases hrests with hq | ⟨p, rest, f, ⟨hq, hpos, hused⟩, hs, hroom⟩
      · exact .inl hq
      · exact .inr ⟨p, rest, f, hq, hpos, hused, spoilable_iff.mp hs, Nat.not_lt.mp (mt hasRoom_iff.mpr hroom)⟩
    · exact (hframes p f).imp_right (And.imp_left spoilable_iff.mp)

/-! ## SPOIL, REPRINT and ACCEPT -/

theorem exec_spoil {s : State} (h : s.part.reached) (p : Fin 4) (f : Fin 72) :
    exec (.spoil p f) s = .next ⟨s.pending, settle (roomFound (spoilOp p f s.part))⟩ := by
  have hexec : exec (.spoil p f) s = execSpoil p f s := rfl
  simp only [hexec, execSpoil, event, writeAt_reached h, spoilCommand]

theorem exec_reprint {s : State} (h : s.part.reached) (p : Fin 4) (f : Fin 72) :
    exec (.reprint p f) s = .next ⟨s.pending, settle (reprintOp p f s.part)⟩ := by
  have hexec : exec (.reprint p f) s = execReprint p f s := rfl
  simp only [hexec, execReprint, event, writeAt_reached h]

theorem exec_accept {s : State} (h : s.part.reached) (p : Fin 4) (f : Fin 72) :
    exec (.accept p f) s = .next ⟨s.pending, settle (acceptOp p f s.part)⟩ := by
  have hexec : exec (.accept p f) s = execAccept p f s := rfl
  simp only [hexec, execAccept, event, writeAt_reached h]

section
variable {b : Block} {p : Fin 4} {f : Fin 72}

theorem spoilAccepted_iff : spoilAccepted b p f = true ↔
    (b.pages.pages[p].st = .current ∨ b.pages.pages[p].st = .exposed ∨ b.pages.pages[p].st = .returned)
      ∧ ((b.frame p f).label = .due ∨ (b.frame p f).label = .unsure) ∧ f.val + 1 ≤ b.pages.pages[p].used
      ∧ b.charges.queue.length + b.charges.reserved < 8 := by
  simp only [spoilAccepted, Bool.and_eq_true, Bool.or_eq_true, decide_eq_true_eq, spoilable_iff, hasRoom_iff]
  tauto

theorem settleAccepted_iff : settleAccepted b p f = true ↔
    b.pages.pages[p].st = .returned ∧ (b.frame p f).label = .unsure := by
  simp only [settleAccepted, Bool.and_eq_true, decide_eq_true_eq]

theorem spoilOp_accepted (h : spoilAccepted b p f = true) :
    spoilOp p f b = selectFrame (testHead (spoilFrame p f b)) := if_pos h

theorem spoilOp_refused (h : ¬ spoilAccepted b p f = true) : spoilOp p f b = refuseAt (.frame p f 3) b := if_neg h

theorem reprintOp_accepted (h : settleAccepted b p f = true) :
    reprintOp p f b = selectFrame (changeFrame p f (fun fr => { fr with label := .due }) b) := if_pos h

theorem reprintOp_refused (h : ¬ settleAccepted b p f = true) : reprintOp p f b = refuseAt (.frame p f 3) b := if_neg h

theorem acceptOp_accepted (h : settleAccepted b p f = true) : acceptOp p f b = selectFrame (printFrame p f b) := if_pos h

theorem acceptOp_refused (h : ¬ settleAccepted b p f = true) : acceptOp p f b = refuseAt (.frame p f 3) b := if_neg h

end

/-! ## What a SPOIL leaves to what waits for room -/

/-- With no exposure that can take the room, it goes to the walk. -/
theorem roomFound_no_exposure {b : Block} (h : tryExpose b = b)
    (hcontends : ¬ (exposureContends b = true ∧ b.pages.walkQueue ≠ [])) : roomFound b = walk b := by
  rw [roomFound_uncontended hcontends, h]

theorem roomFound_not_waiting {b : Block} (h : ∀ a, b.gate.active = some a → a.phase ≠ .waiting) : roomFound b = walk b := by
  refine roomFound_no_exposure (tryExpose_not_waiting h) fun hcontends => ?_
  obtain ⟨⟨a, ha, hphase⟩, -⟩ := exposureContends_iff.mp hcontends.1
  exact h a ha hphase

theorem roomFound_no_room {b : Block} (hq : b.pages.walkQueue = []) (h : ¬ b.hasRoom = true) : roomFound b = walk b :=
  roomFound_no_exposure (tryExpose_waits fun hall => h hall.2) fun hall => hall.2 hq

/-- Settles O52: acceptance and refusal of the three commands, and the three ways in which no room is taken. -/
theorem labelCommandsTaken : Obligations.LabelCommandsTaken := by
  intro p f s hreached pg fr label rest becomes unused spoils settles answers
  have hspoils : spoilAccepted s.part p f = true ↔ spoils := spoilAccepted_iff
  have hsettles : settleAccepted s.part p f = true ↔ settles := settleAccepted_iff
  have hbecomes (st : LabelState) : changeFrame p f (fun fr => { fr with label := st }) s.part = becomes st := by
    rw [changeFrame_eq, labelWord, Nat.add_assoc]
    rfl
  have hprint : printFrame p f s.part = testHead (unused (becomes .printed)) := by
    rw [printFrame, hbecomes]
    rfl
  simp only [answers, exec_spoil hreached, exec_reprint hreached, exec_accept hreached]
  refine ⟨fun h => ?spoiled, fun h => ?notSpoiled, fun b hphase hq => ?nothingWaits,
    fun b q rest g hphase hq hpos hused hlabel hfull => ?walkWaits, fun b hq hfull => ?noRoom,
    fun h => ?reprinted, fun h => ?notReprinted, fun h => ?accepted, fun h => ?notAccepted⟩
  case spoiled => rw [spoilOp_accepted (hspoils.mpr h)]
  case notSpoiled => rw [spoilOp_refused (mt hspoils.mp h)]; rfl
  case nothingWaits => rw [roomFound_not_waiting hphase, walk_empty hq]
  case walkWaits =>
    rw [roomFound_not_waiting hphase, walk]
    exact walkOn_waits ⟨hq, hpos, hused⟩ _ (spoilable_iff.mpr hlabel) (mt hasRoom_iff.mp (Nat.not_lt.mpr hfull))
  case noRoom => rw [roomFound_no_room hq (mt hasRoom_iff.mp (Nat.not_lt.mpr hfull)), walk_empty hq]
  case reprinted => rw [reprintOp_accepted (hsettles.mpr h), hbecomes]
  case notReprinted => rw [reprintOp_refused (mt hsettles.mp h)]; rfl
  case accepted => rw [acceptOp_accepted (hsettles.mpr h), hprint]
  case notAccepted => rw [acceptOp_refused (mt hsettles.mp h)]; rfl

end Sys2Proof.Machine
end

section
/-! The composer and the transmission of a message: the records and lines the composer reads, the text of a label line, the bytes of a
message and their bits, and the statement of chapter 7 about transmission. -/

namespace Sys2Proof.Machine

/-! ## The text of a label line -/

theorem bits_high (w : Word) : bits w 8 8 = w.toNat / 256 := by
  have := w.isLt
  simp only [bits]
  omega

theorem bits_top (w : Word) : bits w 12 4 = w.toNat / 4096 := by
  have := w.isLt
  simp only [bits]
  omega

theorem bits_low (w : Word) : bits w 0 8 = w.toNat % 256 := by simp [bits]

theorem byteText_printable {c : Byte} (h : 0x20 ≤ c.toNat) (h' : c.toNat ≤ 0x7E) (x : LabelFields) : byteText x c = [c] :=
  if_pos ⟨h, h'⟩

theorem byteText_blank {c : Byte} (h : c = 0 ∨ (7 ≤ c.toNat ∧ c.toNat ≤ 0x1F) ∨ 0x7F ≤ c.toNat) (x : LabelFields) :
    byteText x c = [0x20] := by
  have hcode : c.toNat = 0 ∨ (7 ≤ c.toNat ∧ c.toNat ≤ 0x1F) ∨ 0x7F ≤ c.toNat := by
    rcases h with rfl | h
    · exact .inl rfl
    · exact .inr h
  rw [byteText, if_neg (by omega)]
  split
  case h_7 => rfl
  all_goals omega

/-- Every byte of a template line gives text (R132). -/
theorem byteText_ne_nil (x : LabelFields) (c : Byte) : byteText x c ≠ [] := by
  unfold byteText
  (repeat' split) <;> simp [digits]

theorem labelLine_eq (x : LabelFields) (ws : List Word) : labelLine x ws
    = (ws.flatMap (fun w => byteText x (w.extractLsb' 0 8) ++ byteText x (w.extractLsb' 8 8))).take 24 := by
  rw [labelLine, List.flatMap_assoc]
  simp only [wordBytes, List.flatMap_cons, List.flatMap_nil, List.append_nil]

theorem length_le_flatMap {α β : Type} {f : α → List β} {n : Nat} (h : ∀ a, n ≤ (f a).length) (l : List α) :
    l.length * n ≤ (l.flatMap f).length := by
  rw [List.length_flatMap]
  simpa using List.card_nsmul_le_sum (l.map fun a => (f a).length) n (by simpa using fun a _ => h a)

/-- Twelve words fill a line. -/
theorem labelLine_length (x : LabelFields) {ws : List Word} (h : ws.length = 12) : (labelLine x ws).length = 24 := by
  have htext (w : Word) : 2 ≤ (byteText x (w.extractLsb' 0 8) ++ byteText x (w.extractLsb' 8 8)).length := by
    have hlow := List.length_pos_iff.mpr (byteText_ne_nil x (w.extractLsb' 0 8))
    have hhigh := List.length_pos_iff.mpr (byteText_ne_nil x (w.extractLsb' 8 8))
    rw [List.length_append]
    omega
  have hlength := length_le_flatMap htext ws
  rw [labelLine_eq, List.length_take]
  omega

/-! ## The bits of a byte on the line -/

theorem getLsbD_eq_decide (d : Byte) (i : Nat) : d.getLsbD i = decide (d.toNat / 2 ^ i % 2 = 1) := by
  rw [BitVec.getLsbD, Nat.testBit_eq_decide_div_mod_eq]

/-- The data bits of a byte, from the least significant (R137). -/
def dataBits (d : Byte) : List Bool := (List.range 8).map (fun i => decide (d.toNat / 2 ^ i % 2 = 1))

theorem txBits_eq (t : TxByte) :
    t.bits = false :: dataBits t.data ++ (parityBitOf t.parity t.data).toList ++ [true] := by
  simp only [TxByte.bits, dataBits, getLsbD_eq_decide]

theorem onesOf_eq (d : Byte) : onesOf d = ((dataBits d).filter id).length := by
  simp only [onesOf, dataBits, List.filter_map, List.length_map, getLsbD_eq_decide]
  rfl

/-- The ones of a byte and the bit that follows it. -/
theorem ones_with_bit (d : Byte) (bit : Bool) :
    ((dataBits d ++ [bit]).filter id).length = onesOf d + flagBit bit := by
  rw [List.filter_append, List.length_append, onesOf_eq]
  cases bit <;> rfl

/-- The bit that is set when the ones are of the other parity makes them of parity `r` (R137). -/
theorem ones_with_parityBit (d : Byte) {r : Nat} (hr : r ≤ 1) :
    ((dataBits d ++ [decide (onesOf d % 2 = 1 - r)]).filter id).length % 2 = r := by
  rw [ones_with_bit, flagBit]
  by_cases h : onesOf d % 2 = 1 - r
  · rw [if_pos (decide_eq_true h)]
    omega
  · rw [if_neg (by simpa using h)]
    omega

/-! ## The message -/

theorem fieldsOf_eq (pg : Page) (f : Fin 72) (got : List Word) :
    let w (i : Nat) : Nat := (got.getD i 0).toNat
    fieldsOf pg f got =
      { ref := got.getD 1 0, roll := pg.roll.toNat, position := f.val + 1, step := w 0 / 256 % 16,
        series := w (got.length - 30) / 256 % 16, day := pg.day.toNat, account := w 2 % 256, copy := w 0 / 4096 } := by
  rw [fieldsOf, bits_top, bits_low]
  rfl

theorem messageBytes_length {p : Fin 4} {f : Fin 72} {line1 line2 : List Byte} (h1 : line1.length = 24)
    (h2 : line2.length = 24) : (messageBytes p f line1 line2).length = 54 := by
  simp [messageBytes, h1, h2]

theorem composedBytes_head (pg : Page) (p : Fin 4) (f : Fin 72) (got : List Word) :
    (composedBytes pg p f got)[0]? = some 0x02 := rfl

/-! ## The bytes on the line -/

theorem sendNext_none {b : Block} (h : b.link.bytes[b.link.next]? = none) : sendNext b = b := by
  simp only [sendNext, h]

theorem sendNext_some {b : Block} {d : Byte} (h : b.link.bytes[b.link.next]? = some d) : sendNext b = { b with
    link := { b.link with
      tx := some { data := d, parity := b.link.parity, rate := b.link.rate }, next := b.link.next + 1 } } := by
  simp only [sendNext, h]
  rfl

theorem lastByteOut_iff {l : Link} : lastByteOut l = true ↔ l.st = .sending ∧ l.tx.isSome = true ∧ l.next = 54 := by
  simp only [lastByteOut, Bool.and_eq_true, decide_eq_true_eq, and_assoc]

/-- The byte on the line has ended: the line is at rest (R137). -/
def lineRests (b : Block) : Block := { b with link := { b.link with tx := none } }

theorem stopBitEnd_rest {b : Block} (h : b.link.tx = none) : stopBitEnd b = b := if_pos (by rw [h]; rfl)

section
variable {b : Block} (htx : b.link.tx.isSome = true)
include htx

theorem stopBitEnd_last (h : lastByteOut b.link = true) : stopBitEnd b = endMessage b := by
  simp only [stopBitEnd, Option.isNone_eq_false_iff.mpr htx, h, if_true, Bool.false_eq_true, if_false]

theorem stopBitEnd_not_last (h : ¬ lastByteOut b.link = true) :
    stopBitEnd b = if b.link.st = .sending then sendNext (lineRests b) else lineRests b := by
  simp only [stopBitEnd, Option.isNone_eq_false_iff.mpr htx, if_neg h, Bool.false_eq_true, if_false]
  rfl

end

theorem exec_messageEnd (s : State) : exec .messageEnd s
    = .next ⟨s.pending, if lastByteOut s.part.link then endMessage s.part else s.part⟩ := rfl

theorem exec_transmitStopBitEnd (s : State) :
    exec .transmitStopBitEnd s = .next ⟨s.pending, stopBitEnd s.part⟩ := rfl

/-! ## The end of a composition -/

theorem exec_compositionComplete {s : State} {v : Service} {p : Fin 4} {f : Fin 72} (hport : s.part.path.port = some v)
    (hlast : v.last = true) (howner : v.owner = .compose p f) : exec .compositionComplete s
      = .next ⟨s.pending, settle (compositionDone p f v.got (freePort s.part))⟩ := by
  have hexec : exec .compositionComplete s = completing (lastOf Owner.isCompose) s := rfl
  rw [hexec, completing_last hport hlast (by simp [lastOf, Owner.isCompose, hlast, howner]), howner]
  rfl

section
variable {b : Block} (p : Fin 4) (f : Fin 72) (got : List Word)

theorem compositionDone_aside (h : b.pages.composeAside ≠ 0) : compositionDone p f got b = { b with
    pages := { b.pages with composeAside := b.pages.composeAside - 1 } } := if_pos h

/-- The message in hand, none of its bytes sent. -/
def composed (bytes : List Byte) (b : Block) : Block := { b with
  pages := { b.pages with composing := false }, link := { b.link with bytes := bytes, next := 0 } }

theorem compositionDone_lineBusy (h : b.pages.composeAside = 0) (htx : b.link.tx.isSome = true) :
    compositionDone p f got b = composed (composedBytes b.pages.pages[p] p f got) b := by
  rw [compositionDone, if_neg (not_not_intro h), startMessage,
    if_neg (by simpa using Option.isSome_iff_ne_none.mp htx)]
  rfl

theorem compositionDone_lineFree (h : b.pages.composeAside = 0) (htx : b.link.tx = none) :
    compositionDone p f got b = sendNext (composed (composedBytes b.pages.pages[p] p f got) b) := by
  rw [compositionDone, if_neg (not_not_intro h), startMessage, if_pos (by simp [htx])]
  rfl

end

/-! ## The composer's reads -/

/-- The address of word `k` of the record at position `g + 1` of a page (R78). -/
def recordAddr (straps : BitVec 2) (p : Fin 4) (g k : Nat) : Nat :=
  windowBase straps + (0x0A00 + 0x380 * p.val + 0x10 + 12 * g + 2 * k)

theorem addrOf_record (straps : BitVec 2) (p : Fin 4) {g : Nat} (hg : g < 72) (k : Fin 6) :
    addrOf straps (.frame p (Fin.ofNat 72 g) k) = recordAddr straps p g k.val := by
  simp only [addrOf, frameOffset, recordAddr, Fin.val_ofNat, Nat.mod_eq_of_lt hg]

/-- A word of a record in memory, as a number. -/
def recordWordAt (b : Block) (p : Fin 4) (g k : Nat) : Nat := (readWord b.mem (recordAddr b.path.straps p g k)).toNat

/-- The record at position `g + 2` continues the run of the one before it (R133): the same order, copy and slide reference, and a
later step. -/
theorem continuesRun_iff {b : Block} {p : Fin 4} {g : Nat} : continuesRun b p g = true ↔
    g + 1 < 72 ∧ recordWordAt b p g 0 % 256 = recordWordAt b p (g + 1) 0 % 256
      ∧ recordWordAt b p g 0 / 4096 = recordWordAt b p (g + 1) 0 / 4096
      ∧ recordWordAt b p g 1 = recordWordAt b p (g + 1) 1
      ∧ recordWordAt b p g 0 / 256 % 16 < recordWordAt b p (g + 1) 0 / 256 % 16 := by
  by_cases hg : g + 1 < 72
  · have hword {i : Nat} (hi : i < 72) (k : Fin 6) :
        b.ram (.frame p (Fin.ofNat 72 i) k) = readWord b.mem (recordAddr b.path.straps p i k.val) := by
      rw [Block.ram, addrOf_record _ _ hi]
    simp only [continuesRun, hword hg, hword (Nat.lt_of_succ_lt hg), bits_low, bits_top, ← BitVec.toNat_inj,
      Bool.and_eq_true, decide_eq_true_eq, and_assoc]
    rfl
  · simp [continuesRun, hg]

/-- The run after a record: each record in it continues the run, the last is continued by none (R133). -/
theorem runAfter_spec (b : Block) (p : Fin 4) {fuel g : Nat} (h : 72 ≤ g + fuel) :
    (∀ i, i < runAfter b p fuel g → continuesRun b p (g + i) = true)
      ∧ ¬ continuesRun b p (g + runAfter b p fuel g) = true := by
  induction fuel generalizing g with
  | zero =>
    refine ⟨fun i hi => absurd hi (Nat.not_lt_zero i), fun hgoes => ?_⟩
    obtain ⟨hlt, -⟩ := continuesRun_iff.mp hgoes
    simp only [runAfter] at hlt
    omega
  | succ fuel ih =>
    by_cases hgoes : continuesRun b p g = true
    · obtain ⟨hrun, hend⟩ := ih (g := g + 1) (by omega)
      rw [runAfter, if_pos hgoes]
      refine ⟨fun i hi => ?_, by rwa [Nat.add_right_comm, Nat.add_assoc] at hend⟩
      cases i with
      | zero => exact hgoes
      | succ i =>
        have hi' := hrun i (by omega)
        rwa [Nat.add_right_comm, Nat.add_assoc] at hi'
    · rw [runAfter, if_neg hgoes]
      exact ⟨fun i hi => absurd hi (Nat.not_lt_zero i), hgoes⟩

theorem composeReads_eq (b : Block) (p : Fin 4) (f : Fin 72) : composeReads b p f =
    (List.range (runAfter b p 72 f.val + 1)).flatMap (fun i => (List.range 6).map (fun k =>
        WordAcc.read (recordAddr b.path.straps p (f.val + i) k)))
      ++ (List.range 24).map (fun k => WordAcc.read (windowBase b.path.straps
        + (0x0600 + 0x40 * (b.pages.pages[p].frames[f].template.getD 0).val + 2 * (k + 1)))) := by
  obtain ⟨hrun, -⟩ := runAfter_spec b p (fuel := 72) (g := f.val) (by omega)
  have hin {i : Nat} (hi : i < runAfter b p 72 f.val + 1) : f.val + i < 72 := by
    cases i with
    | zero => exact f.isLt
    | succ i => exact (continuesRun_iff.mp (hrun i (by omega))).1
  refine congrArg₂ (· ++ ·) (List.flatMap_congr fun i hi => ?_) (List.map_congr_left fun k hk => ?_)
  · rw [← List.map_coe_finRange_eq_range, List.map_map]
    exact List.map_congr_left fun k _ => congrArg WordAcc.read (addrOf_record _ p (hin (List.mem_range.mp hi)) k)
  · have hk' : k + 1 < 32 := by
      have := List.mem_range.mp hk
      omega
    simp only [addrOf, Fin.val_ofNat, Nat.mod_eq_of_lt hk']

/-- Settles O53: the end of a composition, of a byte and of a message, the message and its text, its bits, the composer's reads. -/
theorem messageTransmitted : Obligations.MessageTransmitted := by
  refine ⟨fun p f got v s hport hlast howner hgot => ?composition, fun s => ?bytes, fun pg p f got hgot => ?message,
    fun x ws c => ?text, fun t => ?bits, fun p f b => ?reads⟩
  case composition =>
    subst hgot
    intro b bytes
    rw [exec_compositionComplete hport hlast howner]
    refine ⟨fun h => ?_, fun h htx => ?_, fun h htx => ?_⟩
    · rw [compositionDone_aside (b := freePort s.part) _ _ _ h]
      rfl
    · rw [compositionDone_lineBusy (b := freePort s.part) _ _ _ h htx]
      rfl
    · rw [compositionDone_lineFree (b := freePort s.part) _ _ _ h htx, sendNext_some (composedBytes_head _ _ _ _)]
      rfl
  case bytes =>
    intro l lastOut ended
    have hlastOut : lastByteOut l = true ↔ lastOut := lastByteOut_iff
    rw [exec_messageEnd, exec_transmitStopBitEnd]
    refine ⟨fun h => ⟨?_, ?_⟩, fun h => ?_, fun htx => ?_, fun d htx hst hnext hd => ?_, fun htx h => ?_, rfl⟩
    · rw [if_pos (hlastOut.mpr h)]
      rfl
    · rw [stopBitEnd_last h.2.1 (hlastOut.mpr h)]
      rfl
    · rw [if_neg (mt hlastOut.mp h)]
    · rw [stopBitEnd_rest htx]
    · rw [stopBitEnd_not_last htx (mt hlastOut.mp fun h => hnext h.2.2), if_pos hst, sendNext_some (b := lineRests s.part) hd]
      rfl
    · rcases h with hst | ⟨hnext, hd⟩
      · rw [stopBitEnd_not_last htx (mt hlastOut.mp fun h => hst h.1), if_neg hst]
        rfl
      · rw [stopBitEnd_not_last htx (mt hlastOut.mp fun h => hnext h.2.2), sendNext_none (b := lineRests s.part) hd, ite_self]
        rfl
  case message =>
    intro w lines x line1 line2
    have hlines : lines.length = 24 := by
      rw [List.length_drop]
      omega
    have h1 : line1.length = 24 := labelLine_length x (by rw [List.length_take]; omega)
    have h2 : line2.length = 24 := labelLine_length x (by rw [List.length_drop]; omega)
    have hbytes : composedBytes pg p f got = messageBytes p f line1 line2 := by
      rw [composedBytes, fieldsOf_eq]
    exact ⟨hbytes, h1, h2, hbytes ▸ messageBytes_length h1 h2⟩
  case text =>
    intro d high low
    refine ⟨labelLine_eq x ws, fun h h' => byteText_printable h h' x, ?_, rfl, rfl, rfl, rfl, rfl, fun h => byteText_blank h x⟩
    have hhigh : bits x.ref 8 8 = high := bits_high x.ref
    have hlow : bits x.ref 0 8 = low := bits_low x.ref
    rw [← hhigh, ← hlow]
    rfl
  case bits =>
    refine ⟨fun h => ?_, fun h => ⟨_, ?_, ones_with_parityBit t.data (r := 0) (Nat.zero_le 1)⟩,
      fun h => ⟨_, ?_, ones_with_parityBit t.data (r := 1) le_rfl⟩⟩
    · rw [txBits_eq, h]
      rfl
    · rw [txBits_eq, h]
      exact List.append_assoc _ [_] [true]
    · rw [txBits_eq, h]
      exact List.append_assoc _ [_] [true]
  case reads =>
    intro a w follows t
    have hfollows (g : Nat) : continuesRun b p g = true ↔ follows g := continuesRun_iff
    obtain ⟨hrun, hend⟩ := runAfter_spec b p (fuel := 72) (g := f.val) (by omega)
    have ht : (b.pages.pages[p].frames[f].template.getD 0).val = t := by
      simp only [t]
      split
      next h => rw [h]; rfl
      next u h => rw [h]; rfl
    refine ⟨runAfter b p 72 f.val, fun i hi => (hfollows _).mp (hrun i hi), mt (hfollows _).mpr hend, ?_⟩
    rw [← ht]
    exact congrArg firstOf (composeReads_eq b p f)

end Sys2Proof.Machine
end

section
/-! The Printer Link: the judgement of an arrival, the replies, the reply limit, stray bytes, stalls and settings, RESUME and the
soft reset, and the statements of chapter 8. -/

namespace Sys2Proof.Machine

/-! ## Settings taken -/

/-- The link with the latched settings taken, its state as it was (R148). -/
def settingsTaken (b : Block) : Link :=
  let set : Settings := b.stand.latched
  { b.link with
    enable := set.printerOn, parity := set.parity, rate := set.rate, replyLimit := set.replyLimit, settingsPending := false }

/-- The link goes to OFF: the stall, the marks, the count and the message in hand are cleared (R148). -/
def linkOff (l : Link) : Link := { l with
  st := .off, stall := .none, parityError := false, framingError := false, stray := 0, message := none, bytes := [], next := 0 }

theorem takePending_none {b : Block} (h : b.link.settingsPending = false) : takePending b = b :=
  if_neg (by simp [h])

section
variable {b : Block} (hpending : b.link.settingsPending = true)
include hpending

theorem takePending_printerOn (h : Settings.printerOn b.stand.latched = true) (hst : b.link.st ≠ .off) :
    takePending b = { b with link := settingsTaken b } := by
  rw [takePending, if_pos hpending, takeSettings, if_pos h, if_neg hst]
  rfl

theorem takePending_printerOff (h : Settings.printerOn b.stand.latched = false) :
    takePending b = { b with link := linkOff (settingsTaken b) } := by
  rw [takePending, if_pos hpending, takeSettings, if_neg (by simp [h])]
  rfl

end

/-! ## Entering STALLED and IDLE -/

/-- The stall as it is made, before pending settings are taken (R145). -/
def stalled (r : StallReason) (b : Block) : Block := { b with
  link := { b.link with st := .stalled, stall := r }, stand := { b.stand with flags := b.stand.flags ||| 0x10 } }

theorem stall_eq (r : StallReason) (b : Block) : stall r b = takePending (stalled r b) := rfl

/-- The link IDLE with no message in hand, before pending settings are taken (R139). -/
def idled (b : Block) : Block := { b with link := { b.link with st := .idle, message := none, bytes := [], next := 0 } }

theorem enterIdle_eq (b : Block) : enterIdle b = selectFrame (takePending (idled b)) := rfl

/-! ## The frame of the message in hand, and its resend -/

/-- The frame takes a label state and its label word is written. -/
def relabel (p : Fin 4) (f : Fin 72) (st : LabelState) (b : Block) : Block :=
  changeFrame p f (fun fr => { fr with label := st }) b

theorem settleFrame_some (p : Fin 4) (f : Fin 72) (st : LabelState) (b : Block) :
    settleFrame (some (p, f)) st b = relabel p f st b := rfl

theorem startMessage_lineBusy {b : Block} (h : b.link.tx.isSome = true) :
    startMessage b = { b with link := { b.link with next := 0 } } :=
  if_neg (by simpa using Option.isSome_iff_ne_none.mp h)

theorem startMessage_lineFree {b : Block} (h : b.link.tx = none) :
    startMessage b = sendNext { b with link := { b.link with next := 0 } } :=
  if_pos (by simp [h])

/-- The frame counts one more attempt and the link is SENDING (R144). -/
def reattempted (p : Fin 4) (f : Fin 72) (b : Block) : Block :=
  let c := changeFrame p f (fun fr => { fr with attempts := min 3 (fr.attempts + 1) }) b
  { c with link := { c.link with st := .sending } }

theorem resend_eq (p : Fin 4) (f : Fin 72) (b : Block) : resend p f b = startMessage (reattempted p f b) := rfl

/-! ## The judgement of an arrival -/

theorem decide_ne_eq_bne (x y : Bool) : decide (x ≠ y) = (x != y) := by cases x <;> cases y <;> rfl

/-- The parity bit disagrees with the data bits (R138); without parity there is none. -/
theorem parityWrong_eq (par : Parity) (d : Byte) (bit : Bool) : parityWrong par d bit = (match par with
    | .none => false
    | .even => (((List.range 8).filter (fun i => d.getLsbD i)).length % 2 = 1) != bit
    | .odd => (((List.range 8).filter (fun i => d.getLsbD i)).length % 2 = 0) != bit) := by
  cases par with
  | none => rfl
  | even => exact decide_ne_eq_bne _ _
  | odd => exact decide_ne_eq_bne _ _

theorem lineHeld_eq (par : Parity) (d : Byte) (bit stop : Bool) :
    lineHeld par d bit stop = decide (d = 0 ∧ stop = false ∧ (par = .none ∨ bit = false)) := by
  simp [lineHeld, Bool.and_assoc]

theorem hears_iff {l : Link} : l.hears = true ↔ l.st ≠ .off ∧ l.armed = true := by simp [Link.hears]

theorem exec_byteArrival (d : Byte) (bit stop : Bool) (s : State) :
    exec (.byteArrival d bit stop) s = .next ⟨s.pending, settle (arrival d bit stop s.part)⟩ := rfl

section
variable (d : Byte) (bit stop : Bool) {b : Block}

/-- The receiver has heard a byte; a held line disarms it (R138, log 19). -/
def heardByte (b : Block) : Block := { b with link := { b.link with armed := !lineHeld b.link.parity d bit stop } }

theorem arrival_unheard (h : b.link.st = .off ∨ b.link.armed = false) : arrival d bit stop b = b := by
  refine if_neg fun hhears => ?_
  obtain ⟨hon, harmed⟩ := hears_iff.mp hhears
  exact h.elim hon (by simp [harmed])

theorem arrival_reply (hst : b.link.st = .awaiting) (harmed : b.link.armed = true) :
    arrival d bit stop b = reply d (parityWrong b.link.parity d bit) (!stop) (heardByte d bit stop b) :=
  (if_pos (hears_iff.mpr ⟨by simp [hst], harmed⟩)).trans (if_pos hst)

theorem arrival_stray (hst : b.link.st = .idle ∨ b.link.st = .sending ∨ b.link.st = .stalled)
    (harmed : b.link.armed = true) :
    arrival d bit stop b = strayByte (parityWrong b.link.parity d bit) (!stop) (heardByte d bit stop b) := by
  have hon : b.link.st ≠ .off := by rcases hst with h | h | h <;> simp [h]
  have hother : b.link.st ≠ .awaiting := by rcases hst with h | h | h <;> simp [h]
  exact (if_pos (hears_iff.mpr ⟨hon, harmed⟩)).trans (if_neg hother)

end

theorem strayByte_eq (perr ferr : Bool) (b : Block) : strayByte perr ferr b = { b with
    link := { b.link with
      stray := min 15 (b.link.stray + 1), parityError := b.link.parityError || perr,
      framingError := b.link.framingError || ferr } } := rfl

/-- Settles O55: what the receiver does not hear, and what a stray byte leaves. -/
theorem strayByteCounted : Obligations.StrayByteCounted := by
  intro d bit stop s l perr held
  have hperr : parityWrong l.parity d bit = perr := parityWrong_eq _ _ _
  have hheld : lineHeld l.parity d bit stop = held := lineHeld_eq _ _ _ _
  rw [exec_byteArrival]
  refine ⟨fun hst harmed => ?stray, fun h => ?unheard⟩
  case stray => rw [arrival_stray d bit stop hst harmed, hperr, heardByte, hheld, strayByte_eq]
  case unheard => rw [arrival_unheard d bit stop h]

/-! ## The reply to the message in hand -/

/-- The last reply byte is set (R143). -/
def replied (d : Byte) (b : Block) : Block := { b with link := { b.link with lastReply := d } }

section
variable {b : Block} {p : Fin 4} {f : Fin 72} (hmessage : b.link.message = some (p, f))
include hmessage

/-- A byte with an error is no reply the part knows, whatever its data bits (R142). -/
theorem reply_error (d : Byte) {perr ferr : Bool} (h : perr = true ∨ ferr = true) :
    reply d perr ferr b = stall .garbled (relabel p f .unsure (markErrors perr ferr (replied d b))) := by
  rw [reply, if_pos (Bool.or_eq_true_iff.mpr h), hmessage]
  rfl

theorem reply_printed : reply 0x06 false false b = enterIdle (printFrame p f (replied 0x06 b)) := by
  rw [reply, hmessage]
  rfl

theorem reply_rejected : reply 0x15 false false b = if (b.frame p f).attempts < 3 then resend p f (replied 0x15 b)
    else stall .repeatedReject (relabel p f .due (replied 0x15 b)) := by
  rw [reply, hmessage]
  rfl

theorem reply_paperOut : reply 0x10 false false b = stall .paperOut (relabel p f .due (replied 0x10 b)) := by
  rw [reply, hmessage]
  rfl

theorem reply_headOpen : reply 0x11 false false b = stall .headOpen (relabel p f .due (replied 0x11 b)) := by
  rw [reply, hmessage]
  rfl

theorem reply_unknown {d : Byte} (h06 : d ≠ 0x06) (h15 : d ≠ 0x15) (h10 : d ≠ 0x10) (h11 : d ≠ 0x11) :
    reply d false false b = stall .garbled (relabel p f .unsure (replied d b)) := by
  rw [reply, if_neg (by simp), if_neg h06, if_neg h15, if_neg h10, if_neg h11, hmessage]
  rfl

end

/-! ## The reply limit -/

theorem linkTick_limitOut_iff {l : Link} :
    l.tick.limitOut = true ↔ l.st = .awaiting ∧ l.replyLimit ≤ l.elapsed + 1 := by
  unfold Link.tick
  split
  next h =>
    simp only [Link.limitOut, h, Bool.and_eq_true, decide_eq_true_eq, true_and]
    omega
  next h => simp [Link.limitOut, h]

theorem linkTick_message (l : Link) : l.tick.message = l.message := by
  unfold Link.tick
  split <;> rfl

theorem countTick_link (b : Block) : (countTick b).link = b.link.tick := rfl

theorem exec_replyTimeout (s : State) : exec .replyTimeout s
    = .next ⟨s.pending, if s.part.link.tick.limitOut then clockTick s.part else s.part⟩ := rfl

/-- The increment at which the reply limit is counted out (R141, log 9). -/
theorem clockTick_replyOut {b : Block} (hr : b.inReset = false) (hout : b.link.tick.limitOut = true) :
    clockTick b = settle (runOut (countTick b)) := by
  rw [clockTick, if_neg (by simp [hr]), if_pos (by simp [Block.limitOut, countTick_link, hout])]

/-- With no film limit counted out, only the reply limit can run out. -/
theorem runOut_reply {b : Block} (h : ¬ (b.film.moves = true ∧ b.film.limitOut = true)) : runOut b = replyTimeoutOp b := by
  have hadvance : advanceTimeoutOp b = b := if_neg fun ⟨hadv, hout⟩ => h ⟨moves_of_advances hadv, hout⟩
  have hrewind : rewindTimeoutOp b = b := if_neg fun ⟨hst, hout⟩ => h ⟨moves_of_rewinding hst, hout⟩
  rw [runOut, hadvance, hrewind]

theorem moves_iff {f : Film} : f.moves = true ↔ f.st = .leader ∨ f.st = .advancing ∨ f.st = .rewinding := by
  simp [Film.moves, advances_iff, or_assoc]

/-- The film limits that the increment counts out (R69, R75). -/
theorem countTick_filmOut_iff {b : Block} : (countTick b).film.moves = true ∧ (countTick b).film.limitOut = true
    ↔ (b.film.st = .leader ∨ b.film.st = .advancing ∨ b.film.st = .rewinding) ∧ b.film.limit ≤ b.film.elapsed + 1 := by
  have hmoves : b.film.tick.moves = b.film.moves := by simp only [Film.moves, Film.advances, tick_st]
  rw [countTick_film, hmoves, ← moves_iff]
  exact and_congr_right tick_limitOut_iff

theorem replyTimeoutOp_out {b : Block} {p : Fin 4} {f : Fin 72} (hlimit : b.link.limitOut = true)
    (hmessage : b.link.message = some (p, f)) : replyTimeoutOp b = stall .noReply (relabel p f .unsure b) := by
  rw [replyTimeoutOp, if_pos hlimit, hmessage, settleFrame_some]

/-- Settles O54: the reply by its errors and its byte, the increment at the reply limit, the resend, and the stall by the settings
that wait. -/
theorem replySettlesFrame : Obligations.ReplySettlesFrame := by
  refine ⟨fun d bit stop p f s hst harmed hmessage => ?reply, fun s => ?limit, fun p f b hst hlimit hmessage => ?timeout,
    fun p f b => ?resend, fun r b => ?stall⟩
  case reply =>
    intro l perr held heard b tries becomes answers good
    have hperr : parityWrong s.part.link.parity d bit = perr := parityWrong_eq _ _ _
    have hheld : lineHeld s.part.link.parity d bit stop = held := lineHeld_eq _ _ _ _
    have hb : replied d (heardByte d bit stop s.part) = b := by rw [heardByte, hheld]; rfl
    have hheard : (heardByte d bit stop s.part).link.message = some (p, f) := hmessage
    have hanswers {c : Block} (h : reply d perr (!stop) (heardByte d bit stop s.part) = c) : answers c := by
      simp only [answers, exec_byteArrival, arrival_reply d bit stop hst harmed, hperr, h]
    have hclean {c : Block} (hg : good) (h : reply d false false (heardByte d bit stop s.part) = c) : answers c := by
      obtain ⟨hp, hs⟩ := hg
      have hstop : (!stop) = false := by rw [hs]; rfl
      exact hanswers (by rw [hp, hstop]; exact h)
    refine ⟨fun h => hanswers ?error, fun hg hd => hclean hg ?printed, fun hg hd ht => hclean hg ?resent,
      fun hg hd ht => hclean hg ?repeated, fun hg hd => hclean hg ?paperOut, fun hg hd => hclean hg ?headOpen,
      fun hg h06 h15 h10 h11 => hclean hg ?unknown⟩
    case error =>
      have herror : perr = true ∨ (!stop) = true := (not_and_or.mp h).imp eq_true_of_ne_false (by simp)
      rw [reply_error hheard d herror, hb]
      rfl
    case printed => rw [← hb, hd]; exact reply_printed (hd ▸ hheard)
    case resent => rw [← hb, hd]; exact (reply_rejected (hd ▸ hheard)).trans (if_pos ht)
    case repeated => rw [← hb, hd]; exact (reply_rejected (hd ▸ hheard)).trans (if_neg (Nat.not_lt.mpr ht))
    case paperOut => rw [← hb, hd]; exact reply_paperOut (hd ▸ hheard)
    case headOpen => rw [← hb, hd]; exact reply_headOpen (hd ▸ hheard)
    case unknown => rw [← hb]; exact reply_unknown hheard h06 h15 h10 h11
  case limit =>
    intro c f out filmOut
    have hout : s.part.link.tick.limitOut = true ↔ out := linkTick_limitOut_iff
    have hfilm : c.film.moves = true ∧ c.film.limitOut = true ↔ filmOut := countTick_filmOut_iff
    rw [exec_replyTimeout, exec_standClockIncrement]
    refine ⟨fun p f hr ho hf hmessage => ?reply, fun hr ho hf => ?both, fun h => ?still⟩
    case reply =>
      have hc : c.link.message = some (p, f) := (linkTick_message _).trans hmessage
      have htick : clockTick s.part = settle (stall .noReply (relabel p f .unsure c)) := by
        rw [clockTick_replyOut hr (hout.mpr ho), runOut_reply (mt hfilm.mp hf), replyTimeoutOp_out (hout.mpr ho) hc]
      rw [if_pos (hout.mpr ho), htick]
      exact ⟨rfl, rfl⟩
    case both =>
      rw [if_pos (hout.mpr ho), clockTick_replyOut hr (hout.mpr ho)]
      rfl
    case still =>
      split
      next hlimit => rw [clockTick_inReset (h.resolve_right (not_not_intro (hout.mp hlimit)))]
      next => rfl
  case timeout => exact replyTimeoutOp_out (by simp [Link.limitOut, hst, hlimit]) hmessage
  case resend =>
    refine ⟨fun htx => ?_, fun d htx hd => ?_⟩
    · rw [resend_eq, startMessage_lineBusy (b := reattempted p f b) htx]
      rfl
    · rw [resend_eq, startMessage_lineFree (b := reattempted p f b) htx, sendNext_some (d := d) hd]
      rfl
  case stall =>
    intro set stalledLink taken leaves
    rw [stall_eq]
    refine ⟨fun h => takePending_none (b := stalled r b) h, fun h hon => ?_, fun h hoff => ?_⟩
    · exact takePending_printerOn (b := stalled r b) h hon (by simp [stalled])
    · exact takePending_printerOff (b := stalled r b) h hoff

/-! ## RESUME -/

theorem exec_resume {s : State} (h : s.part.reached) :
    exec .resume s = .next ⟨s.pending, settle (resumeOp s.part)⟩ := by
  have hexec : exec .resume s = execResume s := rfl
  simp only [hexec, execResume, event, writeAt_reached h]

theorem resumeOp_other {b : Block} (h : b.link.st ≠ .stalled) : resumeOp b = b := if_neg h

theorem resumeOp_stalled {b : Block} (h : b.link.st = .stalled) :
    resumeOp b = enterIdle (clearHeadAttempts (clearStall b)) := if_pos h

theorem clearHeadAttempts_empty {b : Block} (h : b.pages.printQueue = []) : clearHeadAttempts b = b := by
  simp only [clearHeadAttempts, h]

theorem clearHeadAttempts_head {b : Block} {p : Fin 4} {tail : List (Fin 4)} (h : b.pages.printQueue = p :: tail) :
    clearHeadAttempts b = (List.finRange 72).foldl (clearAttempts p) b := by
  simp only [clearHeadAttempts, h]

/-- What RESUME makes of a frame of the head page: a DUE frame's attempts become 0 (R147). -/
def attemptsCleared (fr : Frame) : Frame := if fr.label = .due then { fr with attempts := 0 } else fr

/-- The write of the label word of a DUE frame whose attempts RESUME clears; none for another frame (R147). -/
def clearedLabelWrite (straps : BitVec 2) (p : Fin 4) (f : Fin 72) (fr : Frame) : Option WordSet :=
  if fr.label = .due then
    some ⟨.pageWrites, .words [.write (addrOf straps (.frame p f 3)) (labelWord { fr with attempts := 0 })], []⟩
  else none

/-- The label word of a DUE frame without attempts: code 1 and the template field (R185). -/
theorem labelWord_due {fr : Frame} (h : fr.label = .due) :
    labelWord { fr with attempts := 0 } = BitVec.ofNat 16 (1 + templateField fr.template * 256) := by
  simp only [labelWord, h]
  rfl

theorem attemptsCleared_idem (fr : Frame) : attemptsCleared (attemptsCleared fr) = attemptsCleared fr := by
  unfold attemptsCleared
  split <;> simp [*]

theorem clearedLabelWrite_attemptsCleared (straps : BitVec 2) (p : Fin 4) (f : Fin 72) (fr : Frame) :
    clearedLabelWrite straps p f (attemptsCleared fr) = clearedLabelWrite straps p f fr := by
  unfold attemptsCleared
  split <;> simp [clearedLabelWrite, *]

section
variable (p : Fin 4) (b : Block) (f : Fin 72)

theorem changeFrame_getFrame (g : Frame → Frame) (x : Fin 72) :
    (changeFrame p f g b).frame p x = if x = f then g (b.frame p x) else b.frame p x := by
  simp only [Block.frame, changeFrame_eq, Fin.getElem_fin, Vector.getElem_set]
  grind

theorem changeFrame_getPage {q : Fin 4} (h : q ≠ p) (g : Frame → Frame) :
    (changeFrame p f g b).pages.pages[q] = b.pages.pages[q] := by
  simp only [changeFrame_eq, Fin.getElem_fin]
  exact Vector.getElem_set_ne _ _ fun hval => h (Fin.ext hval.symm)

theorem clearAttempts_getFrame (x : Fin 72) :
    (clearAttempts p b f).frame p x = if x = f then attemptsCleared (b.frame p x) else b.frame p x := by
  unfold clearAttempts
  split
  next hdue =>
    rw [changeFrame_getFrame]
    refine if_ctx_congr Iff.rfl (fun hx => ?_) fun _ => rfl
    rw [hx, attemptsCleared, if_pos hdue]
  next hdue =>
    refine (ite_eq_right_iff.mpr fun hx => ?_).symm
    rw [hx, attemptsCleared, if_neg hdue]

theorem clearAttempts_getPage {q : Fin 4} (h : q ≠ p) : (clearAttempts p b f).pages.pages[q] = b.pages.pages[q] := by
  unfold clearAttempts
  split
  · exact changeFrame_getPage p b f h _
  · rfl

theorem clearAttempts_printQueue : (clearAttempts p b f).pages.printQueue = b.pages.printQueue := by
  unfold clearAttempts
  split <;> rfl

theorem clearAttempts_path : (clearAttempts p b f).path = { b.path with
    partList := b.path.partList ++ (clearedLabelWrite b.path.straps p f (b.frame p f)).toList } := by
  unfold clearAttempts clearedLabelWrite
  split <;> simp [changeFrame_eq]

end

/-- A frame of the page after the attempts of the listed frames have been cleared. -/
theorem foldl_clearAttempts_getFrame (p : Fin 4) (l : List (Fin 72)) (b : Block) (x : Fin 72) :
    (l.foldl (clearAttempts p) b).frame p x = if x ∈ l then attemptsCleared (b.frame p x) else b.frame p x := by
  induction l generalizing b with
  | nil => rfl
  | cons f l ih =>
    rw [List.foldl_cons, ih, clearAttempts_getFrame]
    by_cases hx : x = f <;> simp [hx, attemptsCleared_idem]

/-- The writes of the label words, in the order of the list. -/
theorem foldl_clearAttempts_path (p : Fin 4) (l : List (Fin 72)) (b : Block) :
    (l.foldl (clearAttempts p) b).path = { b.path with
      partList := b.path.partList ++ l.filterMap (fun f => clearedLabelWrite b.path.straps p f (b.frame p f)) } := by
  induction l generalizing b with
  | nil => simp
  | cons f l ih =>
    have hsame (x : Fin 72) : clearedLabelWrite b.path.straps p x ((clearAttempts p b f).frame p x)
        = clearedLabelWrite b.path.straps p x (b.frame p x) := by
      rw [clearAttempts_getFrame]
      split
      · exact clearedLabelWrite_attemptsCleared _ _ _ _
      · rfl
    rw [List.foldl_cons, ih, clearAttempts_path]
    simp only [hsame, List.append_assoc]
    cases h : clearedLabelWrite b.path.straps p f (b.frame p f) <;> simp [h]

/-! ## The soft reset -/

theorem linkReset_off {b : Block} (h : b.link.st = .off) : linkReset b = b := if_pos h

theorem linkReset_on {b : Block} (h : b.link.st ≠ .off) :
    linkReset b = enterIdle (clearStall (dropMessage b)) := if_neg h

theorem dropMessage_none {b : Block} (h : ¬ (b.link.st = .sending ∨ b.link.st = .awaiting)) : dropMessage b = b := if_neg h

theorem dropMessage_some {b : Block} {p : Fin 4} {f : Fin 72} (h : b.link.st = .sending ∨ b.link.st = .awaiting)
    (hmessage : b.link.message = some (p, f)) : dropMessage b = setAside (relabel p f .unsure b) := by
  rw [dropMessage, if_pos h, hmessage, settleFrame_some]

theorem linkReset_message {b : Block} {p : Fin 4} {f : Fin 72} (h : b.link.st = .sending ∨ b.link.st = .awaiting)
    (hmessage : b.link.message = some (p, f)) :
    linkReset b = enterIdle (clearStall (setAside (relabel p f .unsure b))) := by
  have hon : b.link.st ≠ .off := by rcases h with h | h <;> simp [h]
  rw [linkReset_on hon, dropMessage_some h hmessage]

theorem setAside_idle {b : Block} (h : b.pages.composing = false) : setAside b = b := if_neg (by simp [h])

theorem setAside_composing {b : Block} (h : b.pages.composing = true) : setAside b = { b with
    pages := { b.pages with composing := false, composeAside := b.pages.composeAside + 1 } } := if_pos h

/-- Settles O56: RESUME by the link's state and the print queue, the soft reset by the link's state and the composition, and
entering IDLE by the settings that wait. -/
theorem linkResumesAndResets : Obligations.LinkResumesAndResets := by
  refine ⟨fun s hreached => ?resume, fun b => ?reset, fun b => ?idle⟩
  case resume =>
    intro cleared b
    have hb : clearStall s.part = b := rfl
    rw [exec_resume hreached]
    refine ⟨fun hst => ?other, fun hst hq => ?empty, fun p tail hst hq => ?head⟩
    case other => rw [resumeOp_other hst]
    case empty => rw [resumeOp_stalled hst, hb, clearHeadAttempts_empty (b := b) hq]
    case head =>
      intro label
      have hframe := foldl_keeps (fun c => (c.link, c.charges, c.gate, c.film, c.stand, c.mem)) (clearAttempts p)
        (by simp) (List.finRange 72) b
      simp only [Prod.mk.injEq] at hframe
      obtain ⟨hlink, hcharges, hgate, hfilm, hstand, hmem⟩ := hframe
      have hlabel : (fun f => clearedLabelWrite b.path.straps p f (b.frame p f)) = label := by
        funext f
        refine if_ctx_congr Iff.rfl (fun hdue => ?_) fun _ => rfl
        rw [labelWord_due (fr := b.frame p f) hdue]
        rfl
      refine ⟨(List.finRange 72).foldl (clearAttempts p) b, ?_, hlink, ?_, fun f => ?_, fun q hqp => ?_, ?_, hcharges, hgate,
        hfilm, hstand, hmem⟩
      · rw [resumeOp_stalled hst, hb, clearHeadAttempts_head (b := b) hq]
      · rw [foldl_clearAttempts_path, hlabel]
      · exact (foldl_clearAttempts_getFrame p _ b f).trans (if_pos (List.mem_finRange f))
      · exact foldl_keeps (·.pages.pages[q]) _ (fun c x => clearAttempts_getPage p c x hqp) _ b
      · exact foldl_keeps (·.pages.printQueue) _ (clearAttempts_printQueue p) _ b
  case reset =>
    intro cleared
    refine ⟨linkReset_off, fun h => ?kept, fun p f h hmessage hc => ?dropped, fun p f h hmessage hc => ?aside⟩
    case kept =>
      have hon : b.link.st ≠ .off := by rcases h with h | h <;> simp [h]
      have hno : ¬ (b.link.st = .sending ∨ b.link.st = .awaiting) := by rcases h with h | h <;> simp [h]
      rw [linkReset_on hon, dropMessage_none hno]
      rfl
    case dropped =>
      rw [linkReset_message h hmessage, setAside_idle (b := relabel p f .unsure b) hc]
      rfl
    case aside =>
      rw [linkReset_message h hmessage, setAside_composing (b := relabel p f .unsure b) hc]
      rfl
  case idle =>
    intro c st taken
    rw [enterIdle_eq]
    refine ⟨fun h => ?pendingNone, fun h hon => ?printerOn, fun h hoff => ?printerOff⟩
    case pendingNone => rw [takePending_none (b := idled b) h]; rfl
    case printerOn => rw [takePending_printerOn (b := idled b) h hon (by simp [idled])]; rfl
    case printerOff =>
      rw [takePending_printerOff (b := idled b) h hoff, selectFrame_busy (by simp [linkOff])]
      rfl

end Sys2Proof.Machine
end

section
/-! The address map of the Path Unit: the number of each target's word within the window, and the statement of chapter 9 on it. -/

namespace Sys2Proof.Machine

/-! ## The words of the window -/

/-- The target is a word of the window that a region covers (R153, R180). -/
def Target.ofRegion : Target → Bool
  | .noMemory | .nv _ | .plain _ => false
  | _ => true

/-- The number of a region's word within the window (R153, R180). -/
def windowWord : Target → Nat
  | .stand w => w.val
  | .settings w => 64 + w.val
  | .exposure i => 128 + i.val
  | .scheme m w => 192 + 8 * m.val + w.val
  | .order n k => 256 + 16 * n.val + k.val
  | .gateView k w => 640 + 4 * k.val + w.val
  | .template t w => 768 + 32 * t.val + w.val
  | .header p w => 1280 + 448 * p.val + w.val
  | .frame p f w => 1280 + 448 * p.val + (8 + 6 * f.val + w.val)
  | .noMemory | .nv _ | .plain _ => 0

theorem windowWord_lt (t : Target) : windowWord t < 3072 := by
  cases t <;> simp only [windowWord] <;> omega

theorem addrOf_region (straps : BitVec 2) {t : Target} (ht : t.ofRegion = true) :
    addrOf straps t = windowBase straps + 2 * windowWord t := by
  cases t with
  | noMemory | nv | plain => cases ht
  | stand => rfl
  | settings | exposure | scheme | order | gateView | template | header => simp only [addrOf, windowWord]; omega
  | frame => simp only [addrOf, windowWord, frameOffset]; omega

/-- A number below a type's size names the element with that value. -/
theorem ofNat_eq {n : Nat} [NeZero n] {i : Fin n} {k : Nat} (h : k = i.val) : Fin.ofNat n k = i :=
  Fin.ext (by rw [Fin.val_ofNat, h, Nat.mod_eq_of_lt i.isLt])

theorem pageTarget_header (addr : Nat) (p : Fin 4) (w : Fin 8) : pageTarget addr p w.val = .header p w := by
  rw [pageTarget, if_pos w.isLt, ofNat_eq rfl]

theorem pageTarget_frame (addr : Nat) (p : Fin 4) (f : Fin 72) (w : Fin 6) :
    pageTarget addr p (8 + 6 * f.val + w.val) = .frame p f w := by
  rw [pageTarget, if_neg (by omega), if_pos (by omega), ofNat_eq (i := f) (by omega), ofNat_eq (i := w) (by omega)]

/-- The word `q` of page `p` within the window. -/
theorem windowTarget_page (addr : Nat) (p : Fin 4) {q : Nat} (hq : q < 448) :
    windowTarget addr (1280 + 448 * p.val + q) = pageTarget addr p q := by
  have hp : Fin.ofNat 4 ((1280 + 448 * p.val + q - 1280) / 448) = p := ofNat_eq (by omega)
  have hw : (1280 + 448 * p.val + q - 1280) % 448 = q := by omega
  simp (disch := omega) only [windowTarget, if_neg, if_pos, hp, hw]

/-- Each region's word stands in the window at its number. -/
theorem windowTarget_windowWord (addr : Nat) {t : Target} (ht : t.ofRegion = true) :
    windowTarget addr (windowWord t) = t := by
  cases t with
  | noMemory | nv | plain => cases ht
  | header p w => rw [windowWord, windowTarget_page addr p (by omega), pageTarget_header]
  | frame p f w => rw [windowWord, windowTarget_page addr p (by omega), pageTarget_frame]
  | order n k => exact windowTarget_order addr n k
  | stand w => rw [windowWord, windowTarget, if_pos w.isLt, ofNat_eq rfl]
  | settings w =>
    rw [windowWord]
    simp (disch := omega) only [windowTarget, if_neg, if_pos]
    rw [ofNat_eq (i := w) (by omega)]
  | exposure i =>
    rw [windowWord]
    simp (disch := omega) only [windowTarget, if_neg, if_pos]
    rw [ofNat_eq (i := i) (by omega)]
  | scheme m w =>
    rw [windowWord]
    simp (disch := omega) only [windowTarget, if_neg, if_pos]
    rw [ofNat_eq (i := m) (by omega), ofNat_eq (i := w) (by omega)]
  | gateView k w =>
    rw [windowWord]
    simp (disch := omega) only [windowTarget, if_neg, if_pos]
    rw [ofNat_eq (i := k) (by omega), ofNat_eq (i := w) (by omega)]
  | template t w =>
    rw [windowWord]
    simp (disch := omega) only [windowTarget, if_neg, if_pos]
    rw [ofNat_eq (i := t) (by omega), ofNat_eq (i := w) (by omega)]

/-! ## What an address decodes to -/

theorem windowBase_even (straps : BitVec 2) : evenAddr (windowBase straps) = windowBase straps := by
  have hbase := windowBase_cases straps
  simp only [evenAddr]
  omega

/-- An address decodes as the even address of its word. -/
theorem decodeAddr_congr {straps : BitVec 2} {a c : Nat} (h : evenAddr a = evenAddr c) :
    decodeAddr straps a = decodeAddr straps c := by
  simp only [decodeAddr, h]

/-- The address of window word `j`, and the odd address above it. -/
theorem decodeAddr_window (straps : BitVec 2) {j bit : Nat} (hj : j < 4096) (hbit : bit ≤ 1) :
    decodeAddr straps (windowBase straps + 2 * j + bit) = windowTarget (windowBase straps + 2 * j) j := by
  have hbase := windowBase_cases straps
  have heven : evenAddr (windowBase straps + 2 * j + bit) = windowBase straps + 2 * j := by
    simp only [evenAddr]
    omega
  have hin : inWindow straps (windowBase straps + 2 * j) = true := decide_eq_true (by omega)
  have hword : (windowBase straps + 2 * j - windowBase straps) / 2 = j := by omega
  simp only [decodeAddr, heven, nvBase, hin, hword, if_true]
  rw [if_neg (by omega), if_neg (by omega)]

/-- A region's word decodes from its address and from the odd address above it. -/
theorem decodeAddr_region (straps : BitVec 2) {t : Target} (ht : t.ofRegion = true) {bit : Nat} (hbit : bit ≤ 1) :
    decodeAddr straps (addrOf straps t + bit) = t := by
  have hlt := windowWord_lt t
  rw [addrOf_region straps ht, decodeAddr_window straps (by omega) hbit, windowTarget_windowWord _ ht]

theorem decodeAddr_addrOf (straps : BitVec 2) {t : Target} (ht : t.ofRegion = true) :
    decodeAddr straps (addrOf straps t) = t := decodeAddr_region straps ht (bit := 0) (by omega)

theorem evenAddr_addrOf (straps : BitVec 2) {t : Target} (ht : t.ofRegion = true) :
    evenAddr (addrOf straps t) = addrOf straps t := by
  have hbase := windowBase_cases straps
  rw [addrOf_region straps ht, evenAddr]
  omega

theorem addrOf_region_lt (straps : BitVec 2) {t : Target} (ht : t.ofRegion = true) : addrOf straps t < nvBase := by
  have hbase := windowBase_cases straps
  have hlt := windowWord_lt t
  rw [addrOf_region straps ht, nvBase]
  omega

/-- Above the NV store there is no memory (R151). -/
theorem decodeAddr_noMemory (straps : BitVec 2) {a : Nat} (h : 0x22000 ≤ a) : decodeAddr straps a = .noMemory := by
  rw [decodeAddr, if_pos (by rw [evenAddr]; omega)]

theorem decodeAddr_nv (straps : BitVec 2) (w : Fin 4096) {bit : Nat} (hbit : bit ≤ 1) :
    decodeAddr straps (addrOf straps (.nv w) + bit) = .nv w := by
  have heven : evenAddr (addrOf straps (.nv w) + bit) = 0x20000 + 2 * w.val := by
    simp only [evenAddr, addrOf, nvBase]
    omega
  have hword : Fin.ofNat 4096 ((0x20000 + 2 * w.val - 0x20000) / 2) = w :=
    Fin.ext (show (0x20000 + 2 * w.val - 0x20000) / 2 % 4096 = w.val by omega)
  simp only [decodeAddr, heven, nvBase, hword]
  rw [if_neg (by omega), if_pos (by omega)]

/-- A RAM address outside the window is a plain word. -/
theorem decodeAddr_outside {straps : BitVec 2} {a : Nat} (h : inWindow straps (evenAddr a) = false)
    (hlt : evenAddr a < nvBase) : decodeAddr straps a = .plain (evenAddr a) := by
  simp only [nvBase] at hlt
  simp only [decodeAddr, nvBase, h, Bool.false_eq_true, if_false]
  rw [if_neg (by omega), if_neg (by omega)]

/-- The window words of the two gaps, of each page's last 16 bytes and of the free RAM are plain (R77, R153). -/
theorem windowTarget_plain {addr j : Nat} (h : plainOffset (2 * j)) : windowTarget addr j = .plain addr := by
  rcases h with h | h | h | ⟨hlow, hhigh, h⟩
  · simp (disch := omega) only [windowTarget, if_neg, if_pos]
  · simp (disch := omega) only [windowTarget, if_neg, if_pos]
  · simp (disch := omega) only [windowTarget, if_neg]
  · simp (disch := omega) only [windowTarget, if_neg, if_pos, pageTarget]

/-- Settles O6: the region of each target, the NV store, the words that no region covers, and what lies above. -/
theorem addressMapRoundTrips : Obligations.AddressMapRoundTrips := by
  intro straps t bit hbit
  cases t with
  | noMemory => exact fun a => decodeAddr_noMemory straps
  | nv w => exact decodeAddr_nv straps w hbit
  | plain a =>
    intro heven hlt hplain
    have ha : evenAddr (a + bit) = a := by rw [evenAddr]; omega
    cases hin : inWindow straps a with
    | false => rw [decodeAddr_outside (by rwa [ha]) (by rwa [ha]), ha]
    | true =>
      have hoffset : plainOffset (a - windowBase straps) := hplain.resolve_left (by simp [hin])
      have hbase := windowBase_cases straps
      obtain ⟨hlow, hhigh⟩ : windowBase straps ≤ a ∧ a < windowBase straps + 0x2000 := by simpa [inWindow] using hin
      obtain ⟨j, hj⟩ : ∃ j, a = windowBase straps + 2 * j := ⟨(a - windowBase straps) / 2, by omega⟩
      rw [hj, Nat.add_sub_cancel_left] at hoffset
      rw [hj, decodeAddr_window straps (by omega) hbit, windowTarget_plain hoffset]
  | stand | settings | exposure | scheme | order | gateView | template | header | frame =>
    exact decodeAddr_region straps rfl hbit

end Sys2Proof.Machine
end

section
/-! The end of an event and the bytes of memory: what settling keeps, what a command may change, and the statements of chapter 9. -/

namespace Sys2Proof.Machine

/-! ## The REFUSED flag as an event ends -/

theorem accessMemory_flags (o : Owner) (acc : WordAcc) (last : Bool) (b : Block) :
    (accessMemory o acc last b).stand.flags = b.stand.flags :=
  accessMemory_keeps (fun c => c.stand.flags) (fun _ _ => rfl) (fun _ _ => rfl)
    (fun a v c => by obtain ⟨-, -, -, -, -, -, -, -, -, -, -, -, -, -, -, h, -⟩ := noteWrite_parts a v c; exact h) o acc last b

/-- A served access changes no notice. -/
theorem takeHead_flags (b : Block) : (takeHead b).stand.flags = b.stand.flags :=
  takeHead_keeps (fun c => c.stand.flags) (fun _ _ => rfl) accessMemory_flags b

/-- The arbiter only sets the REFUSED flag. -/
theorem arbitrate_refused {b : Block} (h : b.flag .refused = true) : (arbitrate b).flag .refused = true := by
  have hhead {c : Block} (hc : c.flag .refused = true) : (takeHead c).flag .refused = true := by
    rwa [Block.flag, takeHead_flags]
  unfold arbitrate
  split
  · exact h
  · split
    · split
      · exact hhead (refuse_refused _ _)
      · unfold takeController
        split
        · exact h
        · simpa [serve, Block.flag, accessMemory_flags] using h
    · exact hhead h

theorem takeControllerClaim_keeps_refused {b : Block} (h : b.flag .refused = true) :
    (takeControllerClaim b).flag .refused = true := by
  unfold takeControllerClaim
  dsimp only
  split
  · exact h
  · split
    · exact refuse_refused _ _
    · (repeat' split) <;> exact h
  · exact h

/-- Taking a claim only sets the REFUSED flag. -/
theorem nvTake_keeps_refused {b : Block} (h : b.flag .refused = true) : (nvTake b).flag .refused = true := by
  have hclaim := takeControllerClaim_keeps_refused h
  unfold nvTake
  dsimp only
  split
  · split
    · rwa [Block.flag, (takePartClaim_frame _).2.2.2.2.2.2.1]
    · exact hclaim
  · exact h

/-! ## What the end of an event keeps -/

theorem settle_keptAtEventEnd (b : Block) : keptAtEventEnd b (settle b) := by
  simpa [keptAtEventEnd] using fun n hn => settle_flag b hn

/-- Settles O8: what every event's end keeps, then a busy memory port with and without a claim taken, then the REFUSED flag. -/
theorem eventEndKeeps : Obligations.EventEndKeeps := by
  intro b
  refine ⟨settle_keptAtEventEnd b, fun hport hfree => ?_, fun hport => ?_, fun n hn h => ?_⟩
  · rw [settle_busy hport, nvTake_busy hfree]
  · rw [settle_busy hport]
    simp
  · subst hn
    exact arbitrate_refused (nvTake_keeps_refused h)

/-! ## What a command does to memory -/

/-- The block's memory is `m`, but for the RAM word that the access in service has written. -/
def Block.holdsMemory (c : Block) (m : List Host.Cell) : Prop :=
  c.mem = m ∨ ∃ s a v, c.path.port = some s ∧ s.acc = .write a v ∧ a < nvBase ∧ c.mem = writeWord m a v

/-- The memory's ready events (R108). -/
def readyEvents : List Instr :=
  [.postingWriteComplete, .fillStepComplete, .accountWriteComplete, .generalAreaWriteComplete, .nvReadyAfterReset]

/-- From `b` to `c` memory changes by the word of the access in service and, at a ready event, by the running write cycle. -/
def memoryStep (i : Instr) (b c : Block) : Prop :=
  c.holdsMemory b.mem ∨ i ∈ readyEvents ∧ ∃ l, b.nvCycle = some l ∧ c.holdsMemory (storeWords b.mem l)

theorem memoryStep_of_mem {i : Instr} {b c : Block} (h : c.mem = b.mem) : memoryStep i b c := .inl (.inl h)

theorem settle_holdsMemory {c : Block} {m : List Host.Cell} (h : c.mem = m) : (settle c).holdsMemory m := by
  rw [← h]
  exact settle_mem c

theorem memoryStep_settle {i : Instr} {b c : Block} (h : c.mem = b.mem) : memoryStep i b (settle c) :=
  .inl (settle_holdsMemory h)

theorem onBus_mem {a : Access} {f : Block → Block} {b : Block} (h : (f b).mem = b.mem) : (onBus a f b).mem = b.mem :=
  onBus_keeps (·.mem) h rfl

theorem memoryStep_onReady {i : Instr} (hi : i ∈ readyEvents) (c : Option Claim) {f : Block → Block}
    (hf : ∀ b, (f b).mem = b.mem) (b : Block) : memoryStep i b (onReady c f b) := by
  unfold onReady
  split
  · exact memoryStep_of_mem rfl
  · next l hl =>
    have hcycle : b.nvCycle = some l := by
      unfold readyCycle at hl
      split at hl
      · exact hl
      · cases hl
    exact .inr ⟨hi, l, hcycle, settle_holdsMemory (hf _)⟩

theorem memoryStep_completePort {i : Instr} (spoils : Bool) (sel : Service → Bool) (b : Block) :
    memoryStep i b (completePort spoils sel b) := by
  unfold completePort
  split
  · exact memoryStep_of_mem rfl
  · split
    · refine memoryStep_settle ?_
      split <;> simp
    · exact memoryStep_of_mem rfl

theorem memoryStep_clockTick {i : Instr} (b : Block) : memoryStep i b (clockTick b) := by
  unfold clockTick
  split
  · exact memoryStep_of_mem rfl
  · split
    · exact memoryStep_settle (by simp)
    · exact memoryStep_of_mem (by simp)

theorem startUnlessHeld_mem (straps : BitVec 2) (b : Block) : (startUnlessHeld straps b).mem = b.mem := by
  unfold startUnlessHeld
  split
  · rfl
  · unfold startPart
    simp [startValues]

theorem supplyLowOp_mem (b : Block) : (supplyLowOp b).mem = b.mem := by
  unfold supplyLowOp keepUntilPowerOn
  dsimp only
  (repeat' split) <;> rfl

/-- What a command does to memory, unless it tells of a failed supply. -/
theorem exec_memoryStep (c : Instr) (s : State) (h : losesSupply c = false) :
    ∃ t, exec c s = .next t ∧ memoryStep c s.part t.part := by
  cases c with
  | load | standClockRead | closeGate | fill | controllerNvRead | accountTableWrite | generalAreaWrite | returnPage
  | reprint | accept | templateLineWrite | resume | run | hold | settingsRecordWrite | schemeWrite | dayWordWrite
  | orderControlWrite | orderSetupWrite | orderResultWordWrite | arrive | withdraw | discard | spoil | softReset
  | refusedWrite | controllerMemoryAccess =>
    exact ⟨_, rfl, memoryStep_settle (onBus_mem (by simp))⟩
  | unload | retry => exact ⟨_, rfl, memoryStep_settle ((onBus_mem (by simp)).trans rfl)⟩
  | openGate | openingAmountWrite | noticeFlagsWrite | noticeLevelsWrite | refusedAddressLowRead
  | arrivalReferenceWrite | unpostedTotalLowRead | unpostedTotalLowWrite | unpostedTotalHighWrite
  | lastFaultedAccountWrite =>
    exact ⟨_, rfl, memoryStep_of_mem (onBus_mem (by simp))⟩
  | orderControlRead n =>
    refine ⟨_, rfl, .inl ?_⟩
    have hmem : (readAt (.order n 0) (orderControlRead n) s.part).mem = s.part.mem := onBus_mem (by simp)
    rw [← hmem]
    exact arbitrate_mem _
  | writeBackComplete | skipBaseReadComplete | planningReadComplete | resultCopyLoaded | exposureTableReadComplete
  | postingReadComplete | fillStepReadComplete | controllerNvReadComplete | accountWriteReadComplete | compositionComplete
  | memoryAccessComplete | windowInitialisationEnd => exact ⟨_, rfl, memoryStep_completePort _ _ _⟩
  | postingWriteComplete =>
    exact ⟨_, rfl, memoryStep_onReady (f := postingDone (spoilNext s.pending)) (by simp [readyEvents]) _ (by simp) _⟩
  | fillStepComplete => exact ⟨_, rfl, memoryStep_onReady (f := fillStepDone) (by simp [readyEvents]) _ (by simp) _⟩
  | accountWriteComplete | generalAreaWriteComplete =>
    exact ⟨_, rfl, memoryStep_onReady (f := fun b => setBus .idle (endClaim b)) (by simp [readyEvents]) _ (by simp) _⟩
  | nvReadyAfterReset => exact ⟨_, rfl, memoryStep_onReady (f := id) (by simp [readyEvents]) _ (fun _ => rfl) _⟩
  | conversionCompletion | exposureCompletion | perforationPulse | endOfFilmSwitchClosing | byteArrival =>
    exact ⟨_, rfl, memoryStep_settle (by simp)⟩
  | standClockIncrement => exact ⟨_, rfl, memoryStep_clockTick _⟩
  | advanceTimeout | rewindTimeout | replyTimeout =>
    refine ⟨_, rfl, ?_⟩
    dsimp only
    split
    · exact memoryStep_clockTick _
    · exact memoryStep_of_mem rfl
  | messageEnd =>
    refine ⟨_, rfl, memoryStep_of_mem ?_⟩
    dsimp only
    split <;> simp
  | transmitStopBitEnd => exact ⟨_, rfl, memoryStep_of_mem (by simp)⟩
  | receiveLineReturnToRest | resetPinAssert => exact ⟨_, rfl, memoryStep_of_mem rfl⟩
  | supplyLow => exact ⟨_, rfl, memoryStep_of_mem (supplyLowOp_mem _)⟩
  | powerOn straps failed =>
    obtain rfl : failed = false := h
    exact ⟨_, rfl, memoryStep_settle (startUnlessHeld_mem _ _)⟩
  | resetPinRelease straps =>
    refine ⟨_, rfl, memoryStep_settle ?_⟩
    unfold pinRelease
    split
    · exact startUnlessHeld_mem _ _
    · rfl
  | supplyGood straps failed =>
    obtain rfl : failed = false := h
    refine ⟨_, rfl, memoryStep_settle ?_⟩
    unfold supplyGoodOp
    split
    · exact startUnlessHeld_mem _ _
    · rfl

/-- A byte outside the word that the access in service writes is the memory's. -/
theorem holdsMemory_get {c : Block} {m : List Host.Cell} (hm : Memory.wf m = true) (h : c.holdsMemory m) {x : Nat}
    (hx : ¬ c.portWrites x) : Memory.get c.mem x = Memory.get m x := by
  rcases h with h | ⟨s, a, v, hport, hacc, -, h⟩
  · rw [h]
  · rw [h, get_writeWord_other hm v fun hin => hx ⟨s, a, v, hport, hacc, hin⟩]

/-- A byte of the NV store is the memory's: an access that the port serves writes RAM alone. -/
theorem holdsMemory_get_nv {c : Block} {m : List Host.Cell} (hm : Memory.wf m = true) (h : c.holdsMemory m) {x : Nat}
    (hx : nvBase ≤ x) : Memory.get c.mem x = Memory.get m x := by
  rcases h with h | ⟨s, a, v, -, -, ha, h⟩
  · rw [h]
  · refine h ▸ get_writeWord_other hm v fun ⟨_, hin⟩ => ?_
    simp only [evenAddr, nvBase] at hin ha hx
    omega

/-- A byte that the running write cycle does not cover stands as its words reach the store. -/
theorem get_storeWords_cycle {b : Block} (hm : Memory.wf b.mem = true) {l : List (Nat × Word)} (hl : b.nvCycle = some l)
    {x : Nat} (hx : ¬ b.cycleCovers x) : Memory.get (storeWords b.mem l) x = Memory.get b.mem x :=
  get_storeWords_other hm l fun w hw hin => hx ⟨l, hl, w, hw, hin⟩

/-- Settles O7: every command writes at most the word of the access in service and, at a ready event, the running write cycle. -/
theorem memoryBytesStand : Obligations.MemoryBytesStand := by
  have hstep {c : Instr} {s t : State} (hloses : losesSupply c = false) (hexec : exec c s = .next t) :
      memoryStep c s.part t.part := by
    obtain ⟨t', hexec', h⟩ := exec_memoryStep c s hloses
    cases hexec'.symm.trans hexec
    exact h
  refine ⟨fun c s t x hm hloses hexec hport hcycle => ?_, fun c s t x hm hloses hexec hx hne => ?_⟩
  · rcases hstep hloses hexec with h | ⟨-, l, hl, h⟩
    · exact holdsMemory_get hm h hport
    · rw [holdsMemory_get (wf_storeWords hm l) h hport, get_storeWords_cycle hm hl hcycle]
  · rcases hstep hloses hexec with h | ⟨hready, l, hl, h⟩
    · exact absurd (holdsMemory_get_nv hm h hx) hne
    · refine ⟨?_, hready⟩
      by_contra hcycle
      exact hne (by rw [holdsMemory_get_nv (wf_storeWords hm l) h hx, get_storeWords_cycle hm hl hcycle])

end Sys2Proof.Machine
end

section
/-! The path arbiter: what a free port takes, what the owner of a watched word notes, the members of the long runs, and the
statement of chapter 9 on them. -/

namespace Sys2Proof.Machine

/-! ## An access as it is taken -/

/-- The access of a set as the port serves it, with what the set has got. -/
def served (b : Block) (w : WordSet) (acc : WordAcc) (rest : Option Work) : Service :=
  { owner := w.owner, acc := acc, data := accessData acc b, last := rest.isNone,
    got := match acc with | .read _ => w.got ++ [accessData acc b] | .write _ _ => w.got }

/-- The rest of a set behind the access that is taken. -/
def setLeft (b : Block) (w : WordSet) (acc : WordAcc) (rest : Option Work) : Option WordSet :=
  rest.map (fun x => { w with work := x, got := (served b w acc rest).got })

theorem serve_eq (w : WordSet) (acc : WordAcc) (rest : Option Work) (b : Block) :
    serve w.owner acc rest.isNone w.got b
      = (accessMemory w.owner acc rest.isNone b).setPath { b.path with port := some (served b w acc rest) } := by
  simp only [serve, accessMemory_frame]
  rfl

theorem takeController_next {b : Block} {w : WordSet} {acc : WordAcc} {rest : Option Work}
    (h : nextAcc b w.work = some (acc, rest)) :
    takeController w b = (accessMemory w.owner acc rest.isNone b).setPath
      { b.path with port := some (served b w acc rest), ctlWait := setLeft b w acc rest } := by
  simp only [takeController, h, serve_eq]
  cases rest <;> rfl

theorem takePart_next {b : Block} {w : WordSet} {acc : WordAcc} {rest : Option Work} (tail : List WordSet)
    (h : nextAcc b w.work = some (acc, rest)) :
    takePart w tail b = (accessMemory w.owner acc rest.isNone
        (b.setPath { b.path with partList := (restOf w rest).toList ++ tail })).setPath
      { b.path with port := some (served b w acc rest), partList := (setLeft b w acc rest).toList ++ tail } := by
  have hserved : served (b.setPath { b.path with partList := (restOf w rest).toList ++ tail }) w acc rest
      = served b w acc rest := by cases acc <;> rfl
  simp only [takePart, h, serve_eq, hserved]
  cases rest <;> rfl

theorem startsCycle_iff {o : Owner} : o.startsCycle = true ↔
    o = .ctlAccountWrite ∨ o = .ctlGeneralWrite ∨ o = .postingWrite ∨ o = .fillWrite := by
  cases o <;> simp [Owner.startsCycle]

theorem accessMemory_read (o : Owner) (a : Nat) (last : Bool) (b : Block) : accessMemory o (.read a) last b = b := rfl

/-- A RAM word is stored, and its owner takes note (R154). -/
theorem accessMemory_ram {a : Nat} (h : a < nvBase) (o : Owner) (v : Word) (last : Bool) (b : Block) :
    accessMemory o (.write a v) last b = noteWrite a v { b with mem := writeWord b.mem a v } :=
  if_neg (Nat.not_le.mpr h)

/-- The last word of a write cycle starts the cycle (R108). -/
theorem accessMemory_nv {a : Nat} (h : nvBase ≤ a) (o : Owner) (v : Word) (last : Bool) (b : Block) :
    accessMemory o (.write a v) last b
      = if last && o.startsCycle then { b with nvCycle := some b.nv.latch } else b := if_pos h

/-! ## What the arbiter takes -/

theorem arbitrate_still {b : Block} (h : b.path.port.isSome = true ∨ b.inReset = true) : arbitrate b = b := by
  rw [arbitrate, if_pos (by rcases h with h | h <;> simp [h])]

section
variable {b : Block}

theorem arbitrate_head (hreset : b.inReset = false) (hport : b.path.port = none) (hwait : b.path.ctlWait = none) :
    arbitrate b = takeHead b := by
  simp [arbitrate, hreset, hport, hwait]

/-- The waiting controller access goes before the part list (R160). -/
theorem arbitrate_controller {w : WordSet} (hreset : b.inReset = false) (hport : b.path.port = none)
    (hwait : b.path.ctlWait = some w) (h : b.waitingRefused = none) : arbitrate b = takeController w b := by
  simp [arbitrate, hreset, hport, hwait, h]

theorem arbitrate_refuses {w : WordSet} {a : Nat} (hreset : b.inReset = false) (hport : b.path.port = none)
    (hwait : b.path.ctlWait = some w) (h : b.waitingRefused = some a) : arbitrate b = takeHead (dropWaiting a b) := by
  simp [arbitrate, hreset, hport, hwait, h]

theorem waitingRefused_none (h : ∀ a v, b.path.bus = .memory (.write a v) → b.refusesStore a = false) :
    b.waitingRefused = none := by
  unfold Block.waitingRefused
  split
  · next a v hbus => rw [h a v hbus]; rfl
  · rfl

theorem waitingRefused_some {a : Nat} {v : Word} (hbus : b.path.bus = .memory (.write a v)) (h : b.refusesStore a = true) :
    b.waitingRefused = some a := by
  simp only [Block.waitingRefused, hbus, h, if_true]

/-- The refused write leaves the bus and the port free for the head of the part list. -/
theorem arbitrate_dropWaiting (hreset : b.inReset = false) (hport : b.path.port = none) (a : Nat) :
    arbitrate (dropWaiting a b) = takeHead (dropWaiting a b) := by
  refine arbitrate_head ?_ ?_ ?_
  · simpa [Block.inReset] using hreset
  · simpa [dropWaiting] using hport
  · unfold dropWaiting refuse
    split <;> simp

end

theorem takeHead_nil {b : Block} (h : b.path.partList = []) : takeHead b = b := by
  simp only [takeHead, h]

theorem takeHead_cons {b : Block} {w : WordSet} {tail : List WordSet} (h : b.path.partList = w :: tail) :
    takeHead b = takePart w tail b := by
  simp only [takeHead, h]

/-! ## What the owner of a watched word notes -/

/-- The shadow leads RAM in word 7 or 8 while a write-back that covers the word is held or listed (log 36). -/
theorem leads_iff {b : Block} {n : Fin 24} {k : Fin 16} : b.leads n k = true ↔ (k.val = 7 ∨ k.val = 8) ∧
    ((∃ l h, b.orders.lock = some l ∧ l.slot = n ∧ l.held = some h ∧ h.words[Fin.ofNat 9 (k.val - 7)] ≠ none)
      ∨ ∃ w ∈ b.path.partList, ∃ notice accs v, w.owner = .writeBack n notice ∧ w.work = .words accs
          ∧ .write (addrOf b.path.straps (.order n k)) v ∈ accs) := by
  have hheld (i : Fin 9) : (heldWords b n)[i].isSome = true ↔
      ∃ l h, b.orders.lock = some l ∧ l.slot = n ∧ l.held = some h ∧ h.words[i] ≠ none := by
    simp only [Option.isSome_iff_exists, Option.ne_none_iff_exists', Fin.getElem_fin, heldWords_eq_some]
    grind
  have howner (o : Owner) : o.isWriteBackOf n = true ↔ ∃ notice, o = .writeBack n notice := by
    cases o <;> simp [Owner.isWriteBackOf]
  have hwrites (a : Nat) (acc : WordAcc) : acc.writesTo a = true ↔ ∃ v, acc = .write a v := by
    cases acc <;> simp [WordAcc.writesTo]
  have hwill (a : Nat) (w : WordSet) : w.willWrite a = true ↔ ∃ accs v, w.work = .words accs ∧ .write a v ∈ accs := by
    unfold WordSet.willWrite
    split
    · next l hl => simp only [hl, List.any_eq_true, hwrites]; grind
    · next hl => grind
  simp only [Block.leads, Bool.and_eq_true, Bool.or_eq_true, decide_eq_true_eq, hheld, List.any_eq_true, howner, hwill]
  grind

section
variable {a : Nat} {b : Block}

/-- The scheme shadow follows its word (R52). -/
theorem noteWrite_scheme {m w : Fin 8} (h : decodeAddr b.path.straps a = .scheme m w) (v : Word) : noteWrite a v b
    = b.setExpo { b.expo with schemes := b.expo.schemes.set m (b.expo.schemes[m].set w v) } := by
  simp only [noteWrite, h]

/-- The settings copy follows its word (R166). -/
theorem noteWrite_settings {w : Fin 32} (h : decodeAddr b.path.straps a = .settings w) (v : Word) :
    noteWrite a v b = b.setStand { b.stand with copy := b.stand.copy.set w v } := by
  simp only [noteWrite, h]

/-- The day copy follows the day word (R172). -/
theorem noteWrite_day (h : decodeAddr b.path.straps a = .stand 6) (v : Word) :
    noteWrite a v b = b.setStand { b.stand with day := v } := by
  simp only [noteWrite, h, if_true]

/-- A RAM word whose owner keeps a copy that follows it (R6, R7, R52, R166, R172). -/
def Target.watched : Target → Bool
  | .order _ _ | .scheme _ _ | .settings _ => true
  | .stand w => decide (w = 6)
  | _ => false

theorem noteWrite_unwatched (h : (decodeAddr b.path.straps a).watched = false) (v : Word) : noteWrite a v b = b := by
  unfold noteWrite
  split
  case h_4 w hw => exact if_neg (by simpa [hw, Target.watched] using h)
  case h_5 => rfl
  all_goals simp_all [Target.watched]

end

/-! ## The members of the long runs -/

theorem nextAcc_clear (b : Block) (p : Fin 4) {n : Nat} (h : n < 432) : nextAcc b (.clear p n) =
    some (.write (windowBase b.path.straps + (0x0A10 + 0x380 * p.val + 2 * n)) 0,
      if n = 431 then none else some (.clear p (n + 1))) := by
  have haddr : addrOf b.path.straps (.frame p (Fin.ofNat 72 (n / 6)) (Fin.ofNat 6 (n % 6)))
      = windowBase b.path.straps + (0x0A10 + 0x380 * p.val + 2 * n) := by
    simp only [addrOf, frameOffset, Fin.val_ofNat]
    omega
  rw [nextAcc, haddr]
  by_cases hn : n = 431
  · rw [if_neg (by omega), if_pos hn]
  · rw [if_pos (by omega), if_neg hn]

/-- A write of the window initialisation names its word by the region the word is in (R175). -/
theorem initWrite_region (straps : BitVec 2) {n : Nat} {t : Target} (ht : t.ofRegion = true)
    (h : initWordNumber n = windowWord t) : initWrite straps n = .write (addrOf straps t) (initValue t) := by
  simp only [initWrite, h, windowTarget_windowWord _ ht, addrOf_region straps ht]

/-- A page word of the window initialisation is 0 (R175). -/
theorem initWrite_page (straps : BitVec 2) {n : Nat} (hlow : 1152 ≤ n) (h : n < 2912) : initWrite straps n =
    .write (windowBase straps + (0x0A00 + 0x380 * ((n - 1152) / 440) + 2 * ((n - 1152) % 440))) 0 := by
  have hword : initWordNumber n = 1280 + 448 * ((n - 1152) / 440) + (n - 1152) % 440 := by
    simp (disch := omega) only [initWordNumber, if_neg]
  let p : Fin 4 := ⟨(n - 1152) / 440, by omega⟩
  by_cases hq : (n - 1152) % 440 < 8
  · rw [initWrite_region straps (t := .header p ⟨(n - 1152) % 440, hq⟩) rfl hword]
    rfl
  · rw [initWrite_region straps
      (t := .frame p ⟨((n - 1152) % 440 - 8) / 6, by omega⟩ ⟨((n - 1152) % 440 - 8) % 6, by omega⟩) rfl
      (by rw [hword]; simp only [windowWord, p]; omega)]
    simp only [addrOf, frameOffset, initValue, p, WordAcc.write.injEq, and_true]
    omega

theorem nextAcc_init (b : Block) {n : Nat} (h : n < 2912) : nextAcc b (.init n) =
    some (initWrite b.path.straps n, if n = 2911 then none else some (.init (n + 1))) := by
  rw [nextAcc, Config.initWrites]
  by_cases hn : n = 2911
  · rw [if_neg (by omega), if_pos hn]
  · rw [if_pos (by omega), if_neg hn]

/-- The window initialisation's writes, region by region (R175). -/
theorem initWrite_eq (straps : BitVec 2) {n : Nat} (h : n < 2912) :
    let base := windowBase straps
    initWrite straps n =
      if n < 64 then .write (base + 2 * n) 0
      else if n < 96 then .write (base + (0x0080 + 2 * (n - 64))) (settingsDefaults[n - 64]?.getD 0)
      else if n < 160 then .write (base + (0x0100 + 2 * (n - 96))) 0
      else if n < 224 then .write (base + (0x0180 + 2 * (n - 160))) (if (n - 160) % 8 = 0 then 1 else 0)
      else if n < 608 then .write (base + (0x0200 + 2 * (n - 224))) 0
      else if n < 640 then .write (base + (0x0500 + 2 * (n - 608))) 0
      else if n < 1152 then .write (base + (0x0600 + 2 * (n - 640)))
        (if 1 ≤ (n - 640) % 32 ∧ (n - 640) % 32 ≤ 24 then 0x2020 else 0)
      else .write (base + (0x0A00 + 0x380 * ((n - 1152) / 440) + 2 * ((n - 1152) % 440))) 0 := by
  intro base
  split
  · rw [initWrite_region straps (t := .stand ⟨n, by omega⟩) rfl (by grind [initWordNumber, windowWord])]
    rfl
  split
  · rw [initWrite_region straps (t := .settings ⟨n - 64, by omega⟩) rfl (by grind [initWordNumber, windowWord])]
    simp [addrOf, initValue, base, show n - 64 < 32 by omega]
  split
  · rw [initWrite_region straps (t := .exposure ⟨n - 96, by omega⟩) rfl (by grind [initWordNumber, windowWord])]
    rfl
  split
  · rw [initWrite_region straps (t := .scheme ⟨(n - 160) / 8, by omega⟩ ⟨(n - 160) % 8, by omega⟩) rfl
      (by rw [initWordNumber, if_neg (by omega), if_pos (by omega)]; simp only [windowWord]; omega)]
    simp only [addrOf, initValue, base, WordAcc.write.injEq, and_true]
    omega
  split
  · rw [initWrite_region straps (t := .order ⟨(n - 224) / 16, by omega⟩ ⟨(n - 224) % 16, by omega⟩) rfl
      (by rw [initWordNumber, if_neg (by omega), if_pos (by omega)]; simp only [windowWord]; omega)]
    simp only [addrOf, initValue, base, WordAcc.write.injEq, and_true]
    omega
  split
  · rw [initWrite_region straps (t := .gateView ⟨(n - 608) / 4, by omega⟩ ⟨(n - 608) % 4, by omega⟩) rfl
      (by rw [initWordNumber, if_neg (by omega), if_pos (by omega)]; simp only [windowWord]; omega)]
    simp only [addrOf, initValue, base, WordAcc.write.injEq, and_true]
    omega
  split
  · rw [initWrite_region straps (t := .template ⟨(n - 640) / 32, by omega⟩ ⟨(n - 640) % 32, by omega⟩) rfl
      (by rw [initWordNumber, if_neg (by omega), if_neg (by omega), if_pos (by omega)]; simp only [windowWord]; omega)]
    simp only [addrOf, initValue, base, WordAcc.write.injEq, and_true]
    omega
  · exact initWrite_page straps (by omega) h

/-- Settles O9: what a free port takes, a write noted by the region of its word, the shadows that lead, and the runs. -/
theorem arbiterServesControllerFirst : Obligations.ArbiterServesControllerFirst := by
  refine ⟨fun b => ?takes, fun a v b => ?notes, fun b n k => leads_iff, fun b => ?runs⟩
  case takes =>
    intro fails service left done
    have hfails (a : Nat) : fails a ↔ b.refusesStore a = true := by
      simp only [fails, Block.refusesStore]
      generalize decodeAddr b.path.straps a = target
      cases target with
      | settings w => exact decide_eq_true_iff.symm
      | template t k => exact decide_eq_true_iff.symm
      | noMemory | nv | plain | stand | exposure | scheme | order | gateView | header | frame =>
        exact iff_of_false not_false Bool.false_ne_true
    have hservice (w acc rest) : served b w acc rest = service w acc rest := by cases acc <;> rfl
    have hleft (w acc rest) : setLeft b w acc rest = left w acc rest := by cases acc <;> rfl
    have hdone (w : WordSet) (acc : WordAcc) (rest : Option Work) (c : Block) (hmem : c.mem = b.mem) (hnv : c.nv = b.nv) :
        accessMemory w.owner acc rest.isNone c = done w acc rest c := by
      cases acc with
      | read a => rfl
      | write a v =>
        simp only [done]
        split
        · next ha => rw [accessMemory_ram ha, hmem]
        · next ha =>
          rw [accessMemory_nv (Nat.not_lt.mp ha), hnv]
          simp only [Bool.and_eq_true, startsCycle_iff, Option.isNone_iff_eq_none]
    refine ⟨arbitrate_still, fun hr hp hw hl => ?_, fun w acc rest hr hp hw hstores hnext => ?_,
      fun w a v hr hp hw hbus ha => ?_, fun w tail acc rest hr hp hw hl hnext => ?_⟩
    · rw [arbitrate_head hr hp hw, takeHead_nil hl]
    · have hnone : b.waitingRefused = none := waitingRefused_none fun a v hbus => by
        simpa [hfails] using hstores a v hbus
      rw [arbitrate_controller hr hp hw hnone, takeController_next hnext, hdone w acc rest b rfl rfl, hservice, hleft]
      rfl
    · rw [arbitrate_refuses hr hp hw (waitingRefused_some hbus ((hfails a).mp ha))]
      exact (arbitrate_dropWaiting hr hp a).symm
    · intro taken
      rw [arbitrate_head hr hp hw, takeHead_cons hl, takePart_next tail hnext, hservice, hleft]
      have htaken : b.setPath { b.path with partList := (restOf w rest).toList ++ tail } = taken := by cases rest <;> rfl
      rw [htaken, hdone w acc rest taken rfl rfl]
      rfl
  case notes =>
    generalize ht : decodeAddr b.path.straps a = t
    cases t with
    | order n k => exact noteWrite_order ht v
    | scheme m w => exact noteWrite_scheme ht v
    | settings w => exact noteWrite_settings ht v
    | stand w =>
      have hsix : w = 6 ↔ w.val = 6 := Fin.ext_iff
      by_cases hw : w.val = 6
      · exact (noteWrite_day (by rw [ht, hsix.mpr hw]) v).trans (if_pos hw).symm
      · exact (noteWrite_unwatched (by simp [ht, Target.watched, hsix, hw]) v).trans (if_neg hw).symm
    | noMemory | nv | plain | exposure | gateView | template | header | frame =>
      exact noteWrite_unwatched (by rw [ht]; rfl) v
  case runs =>
    intro base
    refine ⟨⟨rfl, fun x => rfl, fun x y l => rfl⟩, fun p n hn => nextAcc_clear b p hn, fun n hn => ?_⟩
    rw [nextAcc_init b hn, initWrite_eq b.path.straps hn]

end Sys2Proof.Machine
end

section
/-! The Path Unit, word by word: what each region's words take and refuse, the report of a refused write, and
the statements of chapter 9 on them. -/

namespace Sys2Proof.Machine

/-! ## A controller write by the region of its address -/

section
variable {a : Nat} {b : Block} (v : Word)

theorem takeWrite_noMemory (h : decodeAddr b.path.straps a = .noMemory) : takeWrite a v b = b := by
  simp only [takeWrite, h]

theorem takeWrite_stand {w : Fin 64} (h : decodeAddr b.path.straps a = .stand w) : takeWrite a v b = standWrite a w v b := by
  simp only [takeWrite, h]

theorem takeWrite_order {n : Fin 24} {k : Fin 16} (h : decodeAddr b.path.straps a = .order n k) :
    takeWrite a v b = orderWrite n k v b := by
  simp only [takeWrite, h]

theorem takeWrite_gateView {k : Fin 8} {w : Fin 4} (h : decodeAddr b.path.straps a = .gateView k w) :
    takeWrite a v b = refuseAt (.gateView k w) b := by
  simp only [takeWrite, h]

theorem takeWrite_template {t : Fin 16} {k : Fin 32} (h : decodeAddr b.path.straps a = .template t k) :
    takeWrite a v b = templateWrite t k v b := by
  simp only [takeWrite, h]

theorem takeWrite_header {p : Fin 4} {k : Fin 8} (h : decodeAddr b.path.straps a = .header p k) :
    takeWrite a v b = headerWrite p k v b := by
  simp only [takeWrite, h]

theorem takeWrite_frameWord {p : Fin 4} {f : Fin 72} {k : Fin 6} (h : decodeAddr b.path.straps a = .frame p f k) :
    takeWrite a v b = frameWrite p f k v b := by
  simp only [takeWrite, h]

theorem takeWrite_plain {c : Nat} (h : decodeAddr b.path.straps a = .plain c) :
    takeWrite a v b = memoryAccess (.write a v) b := by
  simp only [takeWrite, h]

theorem takeWrite_exposure {i : Fin 64} (h : decodeAddr b.path.straps a = .exposure i) :
    takeWrite a v b = memoryAccess (.write a v) b := by
  simp only [takeWrite, h]

end

/-- A controller write in a reached state, by either of the two rows that name any address (log 33). -/
theorem exec_refusedWrite {s : State} (h : s.part.reached) (a : Nat) (v : Word) :
    exec (.refusedWrite a v) s = .next ⟨s.pending, settle (takeWrite a v s.part)⟩ := by
  have hexec : exec (.refusedWrite a v) s = execRefusedWrite a v s := rfl
  simp only [hexec, execRefusedWrite, event, onBus_reached h]

/-! ## The report of a refused write -/

/-- R157. -/
theorem refuse_eq (a : Nat) (b : Block) : refuse a b = { b with
    path := { b.path with
      refusedAddr := if b.flag .refused then b.path.refusedAddr else BitVec.ofNat 18 (a / 2 * 2) }
    stand := { b.stand with flags := b.stand.flags ||| 0x40 } } := by
  unfold refuse
  split <;> rfl

/-! ## The words that take no write -/

theorem bits_command (v : Word) : bits v 0 2 = v.toNat % 4 := by simp [bits]

section
variable {v : Word} (b : Block)

theorem standWordWrite_refused (h : v.toNat % 4 = 0) : standWordWrite v b = refuseAt (.stand 0) b := by
  simp only [standWordWrite, bits_command, h]

theorem gateWordWrite_refused (h : v.toNat % 4 = 0 ∨ v.toNat % 4 = 3) : gateWordWrite v b = refuseAt (.stand 8) b := by
  rcases h with h | h <;> simp only [gateWordWrite, bits_command, h]

theorem accountGateWrite_refused (h : v.toNat % 4 = 0 ∨ v.toNat % 4 = 3) :
    accountGateWrite v b = refuseAt (.stand 26) b := by
  rcases h with h | h <;> simp only [accountGateWrite, bits_command, h]

theorem filmWordWrite_refused (h : v.toNat / 256 = 0 ∨ 4 ≤ v.toNat / 256) : filmWordWrite v b = refuseAt (.stand 22) b := by
  have hbits := bits_high v
  unfold filmWordWrite
  split
  case h_4 => rfl
  all_goals omega

/-- The outcome record, the clock, the film count, the printer link's high word and the words without a field (R177). -/
theorem standWrite_readOnly (a : Nat) {w : Fin 64}
    (h : w.val = 5 ∨ (9 ≤ w.val ∧ w.val ≤ 21) ∨ w.val = 23 ∨ w.val = 25 ∨ 33 ≤ w.val) :
    standWrite a w v b = refuseAt (.stand w) b := by
  unfold standWrite
  split
  case h_18 => rfl
  all_goals omega

theorem headerWrite_refused {k : Fin 8} (p : Fin 4) (h : k ≠ 7 ∨ v.toNat % 4 = 0 ∨ v.toNat % 4 = 3) :
    headerWrite p k v b = refuseAt (.header p k) b := by
  by_cases hk : k = 7
  · subst hk
    rcases h with h | h | h
    · exact absurd rfl h
    all_goals simp only [headerWrite, bits_command, h, ite_self]
  · exact if_neg fun hv => hk (Fin.ext hv)

theorem frameWrite_refused {k : Fin 6} (p : Fin 4) (f : Fin 72) (h : k ≠ 3 ∨ v.toNat % 4 = 0) :
    frameWrite p f k v b = refuseAt (.frame p f k) b := by
  by_cases hk : k = 3
  · subst hk
    have hv : v.toNat % 4 = 0 := h.resolve_left (absurd rfl)
    simp only [frameWrite, bits_command, hv, ite_self]
  · exact if_neg fun hv => hk (Fin.ext hv)

end

/-- Settles O11: the report, then the words that take no write, region by region. -/
theorem refusedWriteReported : Obligations.RefusedWriteReported := by
  refine ⟨refuse_eq, fun t v s hs h => ?_⟩
  rw [exec_refusedWrite hs]
  suffices hrefused : takeWrite (addrOf s.part.path.straps t) v s.part = refuseAt t s.part by rw [hrefused]; rfl
  cases t with
  | noMemory | nv | plain | settings | exposure | scheme | order | template => exact h.elim
  | gateView k w => exact takeWrite_gateView v (decodeAddr_addrOf _ rfl)
  | header p k => exact (takeWrite_header v (decodeAddr_addrOf _ rfl)).trans (headerWrite_refused _ p h)
  | frame p f k => exact (takeWrite_frameWord v (decodeAddr_addrOf _ rfl)).trans (frameWrite_refused _ p f h)
  | stand w =>
    rw [takeWrite_stand v (decodeAddr_addrOf _ rfl)]
    have hword {k : Fin 64} (hk : w.val = k.val) : w = k := Fin.ext hk
    rcases h with h | h | h | h | h | ⟨hw, h⟩ | ⟨hw | hw, h⟩ | ⟨hw, h⟩ | ⟨hw | hw, h⟩
    · exact standWrite_readOnly _ _ (by omega)
    · exact standWrite_readOnly _ _ (by omega)
    · exact standWrite_readOnly _ _ (by omega)
    · exact standWrite_readOnly _ _ (by omega)
    · exact standWrite_readOnly _ _ (by omega)
    · obtain rfl := hword (k := 0) hw
      exact standWordWrite_refused _ h
    · obtain rfl := hword (k := 8) hw
      exact gateWordWrite_refused _ h
    · obtain rfl := hword (k := 26) hw
      exact accountGateWrite_refused _ h
    · obtain rfl := hword (k := 22) hw
      exact filmWordWrite_refused _ h
    · obtain rfl := hword (k := 24) hw
      exact if_neg (by rwa [bits_command])
    · obtain rfl := hword (k := 27) hw
      exact if_neg (by rwa [bits_command])

end Sys2Proof.Machine
end

section
/-! The refused address (R158): what the part's own blocks leave of the Path Unit's report, and the statement on it. -/

namespace Sys2Proof.Machine

/-! ## What the part's own blocks leave of the report -/

/-- The refused address, its staged half and the controller's access. -/
def Path.report (p : Path) : BitVec 18 × Word × Bus := (p.refusedAddr, p.refusedStage, p.bus)

@[simp] theorem issue_report (o : Owner) (w : Work) (b : Block) : (issue o w b).path.report = b.path.report := rfl

@[simp] theorem issuePage_report (l : List (Target × Word)) (b : Block) : (issuePage l b).path.report = b.path.report := rfl

@[simp] theorem issueWriteBack_report (n : Fin 24) (ws : ResultWords) (notice : Bool) (b : Block) :
    (issueWriteBack n ws notice b).path.report = b.path.report := by
  simp [issueWriteBack, putWriteBack, countWriteBack]

@[simp] theorem formWriteBack_report (n : Fin 24) (ws : ResultWords) (notice : Bool) (b : Block) :
    (formWriteBack n ws notice b).path.report = b.path.report := by
  unfold formWriteBack
  (repeat' split) <;> simp

@[simp] theorem releaseLock_report (b : Block) : (releaseLock b).path.report = b.path.report := by
  unfold releaseLock
  (repeat' split) <;> simp [setLock]

@[simp] theorem completeSoftReset_report (b : Block) : (completeSoftReset b).path.report = b.path.report := by
  simp [completeSoftReset]

@[simp] theorem endCycle_report (oc : OutcomeCode) (b : Block) : (endCycle oc b).path.report = b.path.report := by
  simp only [endCycle, standAfterCycle]
  (repeat' split) <;> simp

@[simp] theorem closeOrder_report (a : ActiveOrder) (e : Entry) (reason : Reason) (b : Block) :
    (closeOrder a e reason b).path.report = b.path.report := by
  unfold closeOrder
  (repeat' split) <;> simp [takeResult]

@[simp] theorem endCancelled_report (reason : Reason) (oc : OutcomeCode) (b : Block) :
    (endCancelled reason oc b).path.report = b.path.report := by
  simp only [endCancelled, endCycle_report, setList, setGate_path]
  split <;> simp

@[simp] theorem endIfIdle_report (b : Block) : (endIfIdle b).path.report = b.path.report := by
  simp only [endIfIdle, endPending]
  (repeat' split) <;> simp

@[simp] theorem gateReset_report (b : Block) : (gateReset b).path.report = b.path.report := by
  unfold gateReset
  (repeat' split) <;> simp

@[simp] theorem changeFrame_report (p : Fin 4) (f : Fin 72) (g : Frame → Frame) (b : Block) :
    (changeFrame p f g b).path.report = b.path.report := rfl

@[simp] theorem selectFrame_report (b : Block) : (selectFrame b).path.report = b.path.report := by
  unfold selectFrame
  (repeat' split) <;> rfl

@[simp] theorem settleFrame_report (m : Option (Fin 4 × Fin 72)) (st : LabelState) (b : Block) :
    (settleFrame m st b).path.report = b.path.report := by
  unfold settleFrame
  split <;> simp

@[simp] theorem dropMessage_report (b : Block) : (dropMessage b).path.report = b.path.report := by
  unfold dropMessage setAside
  (repeat' split) <;> simp

@[simp] theorem linkReset_report (b : Block) : (linkReset b).path.report = b.path.report := by
  simp only [linkReset, enterIdle, clearStall]
  split <;> simp

/-! ## The end of an event with no access on the bus -/

theorem takePartClaim_report (b : Block) : (takePartClaim b).path.report = b.path.report := by
  unfold takePartClaim
  (repeat' split) <;> rfl

theorem takePart_report (w : WordSet) (tail : List WordSet) (b : Block) : (takePart w tail b).path.report = b.path.report := by
  rcases hnext : nextAcc b w.work with _ | ⟨acc, rest⟩
  · simp only [takePart, hnext]
    rfl
  · rw [takePart_next tail hnext]
    rfl

theorem takeHead_report (b : Block) : (takeHead b).path.report = b.path.report := by
  rcases hlist : b.path.partList with _ | ⟨w, tail⟩
  · rw [takeHead_nil hlist]
  · rw [takeHead_cons hlist, takePart_report]

theorem takeController_report (w : WordSet) (b : Block) : (takeController w b).path.report = b.path.report := by
  rcases hnext : nextAcc b w.work with _ | ⟨acc, rest⟩
  · simp only [takeController, hnext]
    rfl
  · rw [takeController_next hnext]
    rfl

theorem report_bus {b c : Block} (h : c.path.report = b.path.report) : c.path.bus = b.path.bus := congrArg (·.2.2) h

/-- With no access on the bus there is no write that the end of the event could refuse. -/
theorem settle_report {b : Block} (h : b.path.bus = .idle) : (settle b).path.report = b.path.report := by
  have hclaim : (nvTake b).path.report = b.path.report := by
    cases hfree : b.nvFree with
    | false => rw [nvTake_busy hfree]
    | true => rw [nvTake_part hfree (by simp [h]), takePartClaim_report]
  have hnone : (nvTake b).waitingRefused = none := waitingRefused_none fun a v hbus => by
    rw [report_bus hclaim, h] at hbus
    cases hbus
  refine Eq.trans ?_ hclaim
  simp only [settle, arbitrate, hnone]
  split
  · rfl
  · split
    · exact takeController_report _ _
    · exact takeHead_report _

/-! ## What makes the refused address 0 -/

theorem softResetOp_report {b : Block} (h : b.stand.softReset = false) : (softResetOp b).path.report = (0, 0, b.path.bus) := by
  simp only [softResetOp, h, Bool.false_eq_true, if_false, gateReset_report, linkReset_report]
  rfl

theorem supplyFails_bus {b : Block} (h : b.path.bus = .idle) (failed : Bool) : (afterSupply failed b).path.bus = .idle := by
  cases failed <;> simp [afterSupply, supplyFails, busAfterReset, h]

theorem takeHeld_idle {b : Block} (h : b.path.bus = .idle) : takeHeld b = b := by
  simp only [takeHeld, h]

/-- With no access on the bus a power-on takes none, so that the start values stand. -/
theorem powerOnOp_report {b : Block} (h : b.path.bus = .idle) (straps : BitVec 2) (failed : Bool) :
    (powerOnOp straps failed b).path.report = (0, 0, .idle) := by
  have hbus {c : Block} (hc : c.path.bus = .idle) : (pathAfterReset c.path).report = (0, 0, .idle) := by
    simp only [pathAfterReset, Path.report, busAfterReset, hc]
  have hfails := supplyFails_bus h failed
  simp only [powerOnOp, startUnlessHeld, startPart]
  split
  · exact hbus hfails
  · rw [takeHeld_idle (congrArg (·.2.2) (hbus hfails))]
    exact hbus hfails

/-- Settles O17: the two words as they are read and written, the soft reset and the power-on. -/
theorem refusedAddressIsStaged : Obligations.RefusedAddressIsStaged := by
  have hzero {b : Block} {x : Bus} (h : b.path.report = (0, 0, x)) : b.path.refusedAddr = 0 ∧ b.path.refusedStage = 0 :=
    ⟨congrArg (·.1) h, congrArg (·.2.1) h⟩
  refine ⟨fun v s hs => ⟨?low, exec_standWordRead hs 4, ?lowWrite, ?highWrite, fun hsoft => ?soft⟩,
    fun straps failed s hidle => ⟨_, rfl, ?power⟩⟩
  case low =>
    have hexec : exec .refusedAddressLowRead s = execRefusedAddressLowRead s := rfl
    simp only [hexec, execRefusedAddressLowRead, event, readAt_reached hs]
    rfl
  case lowWrite =>
    rw [exec_refusedWrite hs, takeWrite_stand v (decodeAddr_addrOf _ rfl)]
    rfl
  case highWrite =>
    rw [exec_refusedWrite hs, takeWrite_stand v (decodeAddr_addrOf _ rfl)]
    rfl
  case soft =>
    refine ⟨settle (softResetOp s.part), ?_, hzero (x := .idle) ?_⟩
    · have hexec : exec .softReset s = execSoftReset s := rfl
      simp only [hexec, execSoftReset, event, writeAt_reached hs]
    · have hreport := softResetOp_report hsoft
      rw [hs.1] at hreport
      rw [settle_report (congrArg (·.2.2) hreport), hreport]
  case power =>
    have hreport := powerOnOp_report hidle straps failed
    exact hzero ((settle_report (congrArg (·.2.2) hreport)).trans hreport)

end Sys2Proof.Machine
end

section
/-! The controller's access on the bus: when it is held, when it does not begin, and the rows that an access by its address does;
the statement of chapter 9 on them. -/

namespace Sys2Proof.Machine

/-! ## An access by its address -/

theorem exec_memoryAccess (a : Access) (s : State) :
    exec (.controllerMemoryAccess a) s = .next ⟨s.pending, settle (onBus a (takeAccess a) s.part)⟩ := rfl

section
variable (straps : BitVec 2)

theorem servedAtOnce_stand {w : Fin 64} (hw : w ≠ 6) {a : Access} (ha : a.addr = addrOf straps (.stand w)) :
    servedAtOnce straps a = true := by
  simp only [servedAtOnce, ha, decodeAddr_stand, decide_eq_true hw]

theorem servedAtOnce_orderControl (n : Fin 24) {a : Access} (ha : a.addr = addrOf straps (.order n 0)) :
    servedAtOnce straps a = true := by
  simp only [servedAtOnce, ha, decodeAddr_order, decide_true]

theorem servedAtOnce_headerWrite (p : Fin 4) (k : Fin 8) (v : Word) :
    servedAtOnce straps (.write (addrOf straps (.header p k)) v) = true := by
  simp only [servedAtOnce, Access.addr, decodeAddr_addrOf straps (t := .header p k) rfl]

theorem servedAtOnce_frameWrite (p : Fin 4) (f : Fin 72) (k : Fin 6) (v : Word) :
    servedAtOnce straps (.write (addrOf straps (.frame p f k)) v) = true := by
  simp only [servedAtOnce, Access.addr, decodeAddr_addrOf straps (t := .frame p f k) rfl]

end

/-- An awake part takes an access that is served at once as its address decodes, whatever is on the bus (log 2, log 33). -/
theorem exec_atOnce {s : State} (h : s.part.awake) {a : Access} (hs : servedAtOnce s.part.path.straps a = true) :
    exec (.controllerMemoryAccess a) s = .next ⟨s.pending, settle (takeAccess a s.part)⟩ := by
  rw [exec_memoryAccess, onBus_awake h hs]

/-! ## The row of a word -/

section
variable {s : State} (h : s.part.awake) {t : Target} {v : Word} {f : Block → Block} {c : Instr}
  (hlive : ∀ x, servedAtOnce s.part.path.straps (.write (addrOf s.part.path.straps t) x) = true)
  (hf : takeWrite (addrOf s.part.path.straps t) v s.part = f s.part)
include h hlive hf

/-- A write that decodes to a row's word and does what the row does is that row, whose write may carry another word. -/
theorem exec_write_eq {x : Word} (hc : exec c s = event (fun b => settle (writeAt t x f b)) s) :
    exec (.controllerMemoryAccess (.write (addrOf s.part.path.straps t) v)) s = exec c s := by
  rw [exec_atOnce h (hlive v), hc, takeAccess, hf, event, writeAt, onBus_awake h (hlive x)]

/-- The same for a row that leaves the port as it is: the write by its address ends the event. -/
theorem exec_write_sets {x : Word} (hc : exec c s = event (writeAt t x f) s) : ∃ b, exec c s = .next ⟨s.pending, b⟩
    ∧ exec (.controllerMemoryAccess (.write (addrOf s.part.path.straps t) v)) s = .next ⟨s.pending, settle b⟩ := by
  refine ⟨f s.part, ?_, ?_⟩
  · rw [hc, event, writeAt, onBus_awake h (hlive x)]
  · rw [exec_atOnce h (hlive v), takeAccess, hf]

end

section
variable {s : State} (h : s.part.awake) {w : Fin 64} {v x : Word} {f : Block → Block} {c : Instr}
include h

theorem exec_standWrite_eq (hw : w ≠ 6) (hc : exec c s = event (fun b => settle (writeAt (.stand w) x f b)) s)
    (hf : standWrite (addrOf s.part.path.straps (.stand w)) w v s.part = f s.part) :
    exec (.controllerMemoryAccess (.write (addrOf s.part.path.straps (.stand w)) v)) s = exec c s :=
  exec_write_eq h (fun _ => servedAtOnce_stand _ hw rfl) ((takeWrite_stand v (decodeAddr_stand _ w)).trans hf) hc

theorem exec_standWrite_sets (hw : w ≠ 6) (hc : exec c s = event (writeAt (.stand w) x f) s)
    (hf : standWrite (addrOf s.part.path.straps (.stand w)) w v s.part = f s.part) :
    ∃ b, exec c s = .next ⟨s.pending, b⟩
      ∧ exec (.controllerMemoryAccess (.write (addrOf s.part.path.straps (.stand w)) v)) s = .next ⟨s.pending, settle b⟩ :=
  exec_write_sets h (fun _ => servedAtOnce_stand _ hw rfl) ((takeWrite_stand v (decodeAddr_stand _ w)).trans hf) hc

theorem exec_headerCommand_eq {p : Fin 4} (hc : exec c s = event (fun b => settle (writeAt (.header p 7) x f b)) s)
    (hf : headerWrite p 7 v s.part = f s.part) :
    exec (.controllerMemoryAccess (.write (addrOf s.part.path.straps (.header p 7)) v)) s = exec c s :=
  exec_write_eq h (servedAtOnce_headerWrite _ p 7) ((takeWrite_header v (decodeAddr_addrOf _ rfl)).trans hf) hc

theorem exec_frameLabel_eq {p : Fin 4} {i : Fin 72} (hc : exec c s = event (fun b => settle (writeAt (.frame p i 3) x f b)) s)
    (hf : frameWrite p i 3 v s.part = f s.part) :
    exec (.controllerMemoryAccess (.write (addrOf s.part.path.straps (.frame p i 3)) v)) s = exec c s :=
  exec_write_eq h (servedAtOnce_frameWrite _ p i 3) ((takeWrite_frameWord v (decodeAddr_addrOf _ rfl)).trans hf) hc

/-- A read of a live stand word, in the access (log 33). -/
theorem exec_standRead (hw : w ≠ 6) : exec (.controllerMemoryAccess (.read (addrOf s.part.path.straps (.stand w)))) s
    = .next ⟨s.pending, settle (standRead (addrOf s.part.path.straps (.stand w)) w s.part)⟩ := by
  rw [exec_atOnce h (servedAtOnce_stand _ hw rfl)]
  simp only [takeAccess, takeRead, decodeAddr_stand]

/-- A row that reads a live stand word. -/
theorem readAt_stand_awake (hw : w ≠ 6) (g : Block → Block) : readAt (.stand w) g s.part = g s.part :=
  onBus_awake h (servedAtOnce_stand _ hw rfl) g

theorem readAt_orderControl_awake (n : Fin 24) (g : Block → Block) : readAt (.order n 0) g s.part = g s.part :=
  onBus_awake h (servedAtOnce_orderControl _ n rfl) g

end

/-! ## The command field picks the row -/

section
variable (v : Word) (b : Block)

theorem standWordWrite_command : (v.toNat % 4 = 1 → standWordWrite v b = runOp b)
    ∧ (v.toNat % 4 = 2 → standWordWrite v b = holdOp b) ∧ (v.toNat % 4 = 3 → standWordWrite v b = softResetOp b) := by
  refine ⟨fun h => ?_, fun h => ?_, fun h => ?_⟩ <;> simp only [standWordWrite, bits_command, h]

theorem gateWordWrite_command : (v.toNat % 4 = 1 → gateWordWrite v b = arriveOp b)
    ∧ (v.toNat % 4 = 2 → gateWordWrite v b = withdrawOp b) := by
  refine ⟨fun h => ?_, fun h => ?_⟩ <;> simp only [gateWordWrite, bits_command, h]

theorem bits_low_byte : bits v 0 8 = (v.extractLsb' 0 8).toNat := by simp [bits]

theorem filmWordWrite_command : (v.toNat / 256 = 1 → filmWordWrite v b = loadOp (v.extractLsb' 0 8).toNat b)
    ∧ (v.toNat / 256 = 2 → filmWordWrite v b = unloadOp b) ∧ (v.toNat / 256 = 3 → filmWordWrite v b = retryOp b) := by
  refine ⟨fun h => ?_, fun h => ?_, fun h => ?_⟩ <;> simp only [filmWordWrite, bits_high, bits_low_byte, h]

theorem accountGateWrite_command : (v.toNat % 4 = 1 → accountGateWrite v b = openOp b)
    ∧ (v.toNat % 4 = 2 → accountGateWrite v b = closeOp b) := by
  refine ⟨fun h => ?_, fun h => ?_⟩ <;> simp only [accountGateWrite, bits_command, h]

theorem headerWrite_command (p : Fin 4) : (v.toNat % 4 = 1 → headerWrite p 7 v b = returnOp p b)
    ∧ (v.toNat % 4 = 2 → headerWrite p 7 v b = discardOp p b) := by
  refine ⟨fun h => ?_, fun h => ?_⟩ <;> simp [headerWrite, bits_command, h]

theorem frameWrite_command (p : Fin 4) (f : Fin 72) : (v.toNat % 4 = 1 → frameWrite p f 3 v b = spoilCommand p f b)
    ∧ (v.toNat % 4 = 2 → frameWrite p f 3 v b = reprintOp p f b)
    ∧ (v.toNat % 4 = 3 → frameWrite p f 3 v b = acceptOp p f b) := by
  refine ⟨fun h => ?_, fun h => ?_, fun h => ?_⟩ <;> simp [frameWrite, bits_command, h]

end

/-- Settles O12: what holds an access and what lets it begin, then the row of each word by its address. -/
theorem heldAccessesWait : Obligations.HeldAccessesWait := by
  refine ⟨fun a s => ?begins, fun v s h => ?rows⟩
  case begins =>
    intro straps waits atOnce
    have hholds : s.part.holds a = true ↔ waits := by
      simp only [Block.holds, Bool.or_eq_true, Bool.and_eq_true, decide_eq_true_eq, waits, straps]
    have honce : servedAtOnce straps a = true ↔ atOnce := by
      simp only [servedAtOnce, atOnce]
      generalize decodeAddr straps a.addr = t
      cases t with
      | stand w => exact decide_eq_true_iff.trans (not_congr Fin.ext_iff)
      | order n k => exact decide_eq_true_iff.trans Fin.ext_iff
      | template n k => exact decide_eq_true_iff.trans Fin.ext_iff
      | header p k => cases a <;> simp
      | frame p f k => cases a <;> simp
      | noMemory | gateView => simp
      | nv | plain | settings | exposure | scheme => simp
    rw [exec_memoryAccess]
    refine ⟨fun hbus hw => ?_, fun hw hserved => ?_, fun hbus hw => ?_⟩
    · simp only [onBus, hbus, hholds.mpr hw, if_true]
      rfl
    · have hfree : s.part.holds a = false := Bool.eq_false_iff.mpr (mt hholds.mp hw)
      by_cases hbus : s.part.path.bus = .idle
      · rw [onBus_taken hbus hfree]
      · rw [onBus_busy hbus hfree (honce.mpr (hserved.resolve_left hbus))]
    · have hnot : ¬ (!s.part.holds a && servedAtOnce s.part.path.straps a) = true := by
        rw [← hholds, ← honce] at hw
        simp only [Bool.and_eq_true, Bool.not_eq_true', not_and]
        grind
      rw [onBus, if_neg hbus, if_neg hnot]
  case rows =>
    obtain ⟨hrun, hhold, hsoft⟩ := standWordWrite_command v s.part
    obtain ⟨harrive, hwithdraw⟩ := gateWordWrite_command v s.part
    obtain ⟨hload, hunload, hretry⟩ := filmWordWrite_command v s.part
    obtain ⟨hopen, hclose⟩ := accountGateWrite_command v s.part
    intro base reads writes field sets closed
    have hstand {w : Fin 64} {f : Block → Block} {x : Word} {c : Instr} (hw : w ≠ 6)
        (hf : standWrite (addrOf s.part.path.straps (.stand w)) w v s.part = f s.part)
        (hc : exec c s = event (fun b => settle (writeAt (.stand w) x f b)) s) : writes (2 * w.val) = exec c s :=
      exec_standWrite_eq h hw hc hf
    have hsets {w : Fin 64} {f : Block → Block} {x : Word} {c : Instr} (hw : w ≠ 6)
        (hf : standWrite (addrOf s.part.path.straps (.stand w)) w v s.part = f s.part)
        (hc : exec c s = event (writeAt (.stand w) x f) s) : sets (2 * w.val) c :=
      exec_standWrite_sets h hw hc hf
    refine ⟨fun hv => hstand (w := 0) (by decide) (hrun hv) rfl, fun hv => hstand (w := 0) (by decide) (hhold hv) rfl,
      fun hv => hstand (w := 0) (by decide) (hsoft hv) rfl, fun hv => hstand (w := 8) (by decide) (harrive hv) rfl,
      fun hv => hstand (w := 8) (by decide) (hwithdraw hv) rfl, fun hv => hstand (w := 22) (by decide) (hload hv) rfl,
      fun hv => hstand (w := 22) (by decide) (hunload hv) rfl, fun hv => hstand (w := 22) (by decide) (hretry hv) rfl,
      fun hv => hstand (w := 24) (by decide) (if_pos ((bits_command v).trans hv)) rfl,
      fun hv => hsets (w := 26) (by decide) (hopen hv) rfl, fun hv => hstand (w := 26) (by decide) (hclose hv) rfl,
      fun hv => hstand (w := 27) (by decide) (if_pos ((bits_command v).trans hv)) rfl, fun p => ?page, fun n => ?control,
      hsets (w := 1) (by decide) rfl rfl, hsets (w := 2) (by decide) rfl rfl, hsets (w := 7) (by decide) rfl rfl,
      hsets (w := 28) (by decide) rfl rfl, hsets (w := 29) (by decide) rfl rfl, hsets (w := 30) (by decide) rfl rfl,
      hsets (w := 31) (by decide) rfl rfl, hsets (w := 32) (by decide) rfl rfl, ?clock, ?refused, ?unposted,
      fun n => ?controlRead, fun a => rfl⟩
    case page =>
      obtain ⟨hreturn, hdiscard⟩ := headerWrite_command v s.part p
      refine ⟨fun hv => exec_headerCommand_eq h (c := .returnPage p) rfl (hreturn hv),
        fun hv => exec_headerCommand_eq h (c := .discard p) rfl (hdiscard hv), fun f => ?_⟩
      obtain ⟨hspoil, hreprint, haccept⟩ := frameWrite_command v s.part p f
      exact ⟨fun hv => exec_frameLabel_eq h (c := .spoil p f) rfl (hspoil hv),
        fun hv => exec_frameLabel_eq h (c := .reprint p f) rfl (hreprint hv),
        fun hv => exec_frameLabel_eq h (c := .accept p f) rfl (haccept hv)⟩
    case control =>
      exact exec_write_eq h (t := .order n 0) (f := orderControlWrite n v) (fun _ => servedAtOnce_orderControl _ n rfl)
        (takeWrite_order v (decodeAddr_order _ n 0)) rfl
    case clock =>
      refine (exec_standRead h (w := 5) (by decide)).trans ?_
      have hexec : exec .standClockRead s = execStandClockRead s := rfl
      rw [hexec, execStandClockRead, event, readAt_stand_awake h (by decide)]
      rfl
    case refused =>
      refine ⟨refusedLowRead s.part, ?_, exec_standRead h (w := 3) (by decide)⟩
      have hexec : exec .refusedAddressLowRead s = execRefusedAddressLowRead s := rfl
      rw [hexec, execRefusedAddressLowRead, event, readAt_stand_awake h (by decide)]
    case unposted =>
      refine ⟨unpostedLowRead s.part, ?_, exec_standRead h (w := 30) (by decide)⟩
      have hexec : exec .unpostedTotalLowRead s = execUnpostedTotalLowRead s := rfl
      rw [hexec, execUnpostedTotalLowRead, event, readAt_stand_awake h (by decide)]
    case controlRead =>
      refine ⟨orderControlRead n s.part, ?_, ?_⟩
      · have hexec : exec (.orderControlRead n) s = execOrderControlRead n s := rfl
        rw [hexec, execOrderControlRead, event, readAt_orderControl_awake h]
      · refine (exec_atOnce h (servedAtOnce_orderControl _ n rfl)).trans ?_
        simp only [takeAccess, takeRead]
        rw [show windowBase s.part.path.straps + (0x0200 + 0x20 * n.val) = addrOf s.part.path.straps (.order n 0) from rfl,
          decodeAddr_order]
        rfl

end Sys2Proof.Machine
end

section
/-! A controller's write carried to memory: stored in the access or waiting at the port, with its owner's copy, and the
statement of chapter 9 on it. -/

namespace Sys2Proof.Machine

/-! ## The addresses of RAM -/

theorem evenAddr_lt_nvBase {straps : BitVec 2} {a : Nat} (hmem : decodeAddr straps a ≠ .noMemory)
    (hnv : ∀ w, decodeAddr straps a ≠ .nv w) : evenAddr a < nvBase := by
  by_contra h
  simp only [decodeAddr, if_pos (Nat.not_lt.mp h)] at hmem hnv
  split at hmem
  · exact hmem rfl
  · next hhigh =>
    rw [if_neg hhigh] at hnv
    exact hnv _ rfl

/-- A word of the window is a region's or a plain one, in the order of the regions (R153). -/
theorem windowTarget_induction {P : Target → Prop} {addr : Nat} (hplain : P (.plain addr))
    (hregion : ∀ t, t.ofRegion = true → P t) (j : Nat) : P (windowTarget addr j) := by
  have hpage (p : Fin 4) (q : Nat) : P (pageTarget addr p q) :=
    iteInduction (fun _ => hregion _ rfl) fun _ => iteInduction (fun _ => hregion _ rfl) fun _ => hplain
  exact iteInduction (fun _ => hregion _ rfl) fun _ => iteInduction (fun _ => hregion _ rfl) fun _ =>
    iteInduction (fun _ => hplain) fun _ => iteInduction (fun _ => hregion _ rfl) fun _ =>
    iteInduction (fun _ => hregion _ rfl) fun _ => iteInduction (fun _ => hregion _ rfl) fun _ =>
    iteInduction (fun _ => hregion _ rfl) fun _ => iteInduction (fun _ => hplain) fun _ =>
    iteInduction (fun _ => hregion _ rfl) fun _ => iteInduction (fun _ => hpage _ _) fun _ => hplain

theorem windowTarget_eq_plain {addr j c : Nat} : windowTarget addr j = .plain c → c = addr := by
  refine windowTarget_induction (P := fun t => t = .plain c → c = addr) ?_ (fun t ht h => ?_) j
  · rintro ⟨⟩
    rfl
  · subst h
    cases ht

theorem plain_of_decodeAddr {straps : BitVec 2} {a c : Nat} (h : decodeAddr straps a = .plain c) :
    c = evenAddr a ∧ evenAddr a < nvBase := by
  refine ⟨?_, evenAddr_lt_nvBase (straps := straps) (by simp [h]) (by simp [h])⟩
  simp only [decodeAddr] at h
  split_ifs at h
  · exact windowTarget_eq_plain h
  · cases h
    rfl

/-! ## A write that is carried to memory -/

/-- What a write that is carried to memory does to the block: with the port free its word is stored and `copied` holds, with the
port busy it waits at the port. -/
def storesWord (a : Nat) (v : Word) (copied : Block → Prop) (b c : Block) : Prop :=
  keptAtEventEnd b c ∧ c.path.bus = .memory (.write a v)
    ∧ (∀ x, ¬ inWord a x → Memory.get c.mem x = Memory.get b.mem x)
    ∧ (b.path.port = none → readWord c.mem a = v ∧ copied c)
    ∧ (b.path.port.isSome = true → c.mem = b.mem ∧ c.path.port = b.path.port
        ∧ c.path.ctlWait = some ⟨.controller, .words [.write a v], []⟩)

/-- The block in which a write's owner takes note: the word stored, the claims of the event's end taken. -/
def stored (a : Nat) (v : Word) (b : Block) : Block :=
  (nvTake (memoryAccess (.write a v) b)).setMem (writeWord b.mem a v)

theorem stored_frame (a : Nat) (v : Word) (b : Block) : (stored a v b).path.straps = b.path.straps
    ∧ (stored a v b).path.bus = .memory (.write a v) ∧ (stored a v b).expo = b.expo ∧ (stored a v b).stand = b.stand
    ∧ (stored a v b).mem = writeWord b.mem a v := by
  obtain ⟨-, hbus, hstand⟩ := nvTake_memory (memoryAccess_bus (.write a v) b)
  exact ⟨by simp [stored, memoryAccess], hbus, by simp [stored, memoryAccess], hstand, rfl⟩

section
variable {a : Nat} {b : Block} (v : Word) (heven : evenAddr a = a)
include heven

/-- With the port free the word is stored in the access, and its owner takes note. -/
theorem settle_stored (hport : b.path.port = none) (hreset : b.inReset = false) (hlt : a < nvBase)
    (hg : b.refusesStore a = false) : settle (memoryAccess (.write a v) b) = (noteWrite a v (stored a v b)).setPath
      { (stored a v b).path with ctlWait := none, port := some ⟨.controller, .write a v, 0, true, []⟩ } := by
  have hstore := settle_store hport hreset v (a := a) (by rwa [heven]) hg
  rwa [heven] at hstore

theorem settle_storesWord {copied : Block → Prop} (hb : b.reached) (hm : Memory.wf b.mem = true) (hlt : a < nvBase)
    (hg : b.refusesStore a = false)
    (hcopy : ∀ path, copied ((noteWrite a v (stored a v b)).setPath path)) :
    storesWord a v copied b (settle (memoryAccess (.write a v) b)) := by
  obtain ⟨-, hreset, -⟩ := hb
  obtain ⟨-, hbus, -, -, hmem⟩ := stored_frame a v b
  refine ⟨settle_keptAtEventEnd (memoryAccess (.write a v) b), ?_⟩
  cases hport : b.path.port with
  | none =>
    have hstore := settle_stored v heven hport hreset hlt hg
    have hstored : (settle (memoryAccess (.write a v) b)).mem = writeWord b.mem a v := by
      simp [hstore, hmem]
    refine ⟨by rw [hstore]; exact hbus, fun x hx => ?_, fun _ => ⟨?_, hstore ▸ hcopy _⟩, nofun⟩
    · rw [hstored, get_writeWord_other hm v hx]
    · rw [hstored, readWord_writeWord hm]
  | some w =>
    have hbusy : b.path.port.isSome = true := by rw [hport]; rfl
    have hmem : (nvTake (memoryAccess (.write a v) b)).mem = b.mem := by simp [memoryAccess]
    obtain ⟨hwait, hbus, -⟩ := nvTake_memory (memoryAccess_bus (.write a v) b)
    rw [settle_memoryAccess_busy hbusy]
    refine ⟨hbus, fun x _ => by rw [hmem], nofun, fun _ => ⟨hmem, (nvTake_port _).trans hport, ?_⟩⟩
    rw [hwait]
    simp only [memoryAccess, waitAtPort, setPath_path, accessWord, heven]

end

theorem memoryAccess_write {a : Nat} (heven : evenAddr a = a) (v : Word) (b : Block) : memoryAccess (.write a v) b = { b with
    path := { b.path with bus := .memory (.write a v), ctlWait := some ⟨.controller, .words [.write a v], []⟩ } } := by
  simp only [memoryAccess, accessWord, heven]
  rfl

/-! ## The copies that follow -/

section
variable {a : Nat} {b : Block} (v : Word)

theorem stored_scheme {m w : Fin 8} (h : decodeAddr b.path.straps a = .scheme m w) :
    (noteWrite a v (stored a v b)).expo.schemes = b.expo.schemes.set m (b.expo.schemes[m].set w v) := by
  obtain ⟨hstraps, -, hexpo, -, -⟩ := stored_frame a v b
  rw [noteWrite_scheme (by rwa [hstraps]), setExpo_expo, hexpo]

theorem stored_day (h : decodeAddr b.path.straps a = .stand 6) : (noteWrite a v (stored a v b)).stand.day = v := by
  obtain ⟨hstraps, -, -, -, -⟩ := stored_frame a v b
  rw [noteWrite_day (by rwa [hstraps]), setStand_stand]

/-- The latched settings stand (R166). -/
theorem stored_settings {w : Fin 32} (h : decodeAddr b.path.straps a = .settings w) :
    (noteWrite a v (stored a v b)).stand = { b.stand with copy := b.stand.copy.set w v } := by
  obtain ⟨hstraps, -, -, hstand, -⟩ := stored_frame a v b
  rw [noteWrite_settings (by rwa [hstraps]), setStand_stand, hstand]

end

/-- Order words 9-15 set no shadow (R7). -/
theorem stored_laterWord {a : Nat} {b : Block} (v : Word) {n : Fin 24} {k : Fin 16} (hk : 9 ≤ k.val)
    (h : decodeAddr b.path.straps a = .order n k) (m : Fin 24) :
    (noteWrite a v (stored a v b)).shadow m = b.shadow m := by
  obtain ⟨hstraps, -, -, -, -⟩ := stored_frame a v b
  have hshadow : (stored a v b).shadow m = b.shadow m := by simp [stored, Block.shadow, memoryAccess]
  rw [noteWrite_order (by rwa [hstraps]), ← hshadow]
  split
  · rfl
  · rw [shadow_withShadow, take_other (.inr hk), ite_self]

/-! ## The guarded words -/

theorem refusesStore_unguarded {b : Block} {a : Nat} {t : Target} (ht : decodeAddr b.path.straps a = t)
    (hsettings : ∀ w, t ≠ .settings w) (htemplate : ∀ n k, t ≠ .template n k) : b.refusesStore a = false := by
  subst ht
  unfold Block.refusesStore
  split
  · next w hw => exact absurd hw (hsettings w)
  · next n k hk => exact absurd hk (htemplate n k)
  · rfl

/-- A guarded write waits for a busy port, and is refused with the port free when its condition fails (log 13). -/
theorem guardedWrite_busy {b : Block} (h : b.path.port.isSome = true) (t : Target) (v : Word) :
    guardedWrite t v b = memoryAccess (.write (addrOf b.path.straps t) v) b := by
  have hnone : b.path.port.isNone = false := by rw [← Option.not_isSome, h]; rfl
  simp [guardedWrite, hnone]

theorem guardedWrite_refused {b : Block} {t : Target} (h : b.path.port = none)
    (hg : b.refusesStore (addrOf b.path.straps t) = true) (v : Word) :
    guardedWrite t v b = refuse (addrOf b.path.straps t) b := by
  simp [guardedWrite, h, hg]

theorem guardedWrite_stores {b : Block} {t : Target} (hg : b.refusesStore (addrOf b.path.straps t) = false) (v : Word) :
    guardedWrite t v b = memoryAccess (.write (addrOf b.path.straps t) v) b := by
  simp [guardedWrite, hg]

section
variable (b : Block)

/-- The settings record takes a word while the stand is HELD (R166). -/
theorem refusesStore_settings (w : Fin 32) :
    b.refusesStore (addrOf b.path.straps (.settings w)) = decide (b.stand.st ≠ .held) := by
  simp only [Block.refusesStore, decodeAddr_addrOf _ (t := .settings w) rfl]

/-- A template's line words take a word while its use count is 0 (R130). -/
theorem refusesStore_template (t : Fin 16) (k : Fin 32) : b.refusesStore (addrOf b.path.straps (.template t k))
    = decide (1 ≤ k.val ∧ k.val ≤ 24 ∧ b.pages.useCount[t] ≠ 0) := by
  simp only [Block.refusesStore, decodeAddr_addrOf _ (t := .template t k) rfl]

end

/-- A row that writes a word, in a reached state. -/
theorem exec_writeRow {s : State} (h : s.part.reached) {t : Target} {x : Word} {f : Block → Block} {c : Instr}
    (hc : exec c s = event (fun b => settle (writeAt t x f b)) s) : exec c s = .next ⟨s.pending, settle (f s.part)⟩ := by
  rw [hc, event, writeAt_reached h]

theorem templateWrite_line {k : Fin 32} (hk : 1 ≤ k.val) (t : Fin 16) (v : Word) (b : Block) :
    templateWrite t k v b = guardedWrite (.template t k) v b := if_neg (by omega)

/-- A controller write in a reached state, as its address decodes. -/
theorem exec_writeTaken {s : State} (h : s.part.reached) {a : Nat} {v : Word} {c : Block} (htake : takeWrite a v s.part = c) :
    exec (.controllerMemoryAccess (.write a v)) s = .next ⟨s.pending, settle c⟩ :=
  htake ▸ exec_refusedWrite h a v

/-- Settles O58: each word that is carried to memory with its owner's copy, and the two guarded regions. -/
theorem memoryWritesStored : Obligations.MemoryWritesStored := by
  intro v s hs hm base template stores guarded
  have hstores {a : Nat} {c : Instr} {copied : Block → Prop} (heven : evenAddr a = a) (hlt : a < nvBase)
      (hg : s.part.refusesStore a = false)
      (hc : exec c s = .next ⟨s.pending, settle (memoryAccess (.write a v) s.part)⟩)
      (hcopy : ∀ path, copied ((noteWrite a v (stored a v s.part)).setPath path)) :
      stores c a copied := ⟨_, hc, settle_storesWord v heven hs hm hlt hg hcopy⟩
  have hregion {t : Target} {c : Instr} {copied : Block → Prop} (ht : t.ofRegion = true) :=
    hstores (a := addrOf s.part.path.straps t) (c := c) (copied := copied) (evenAddr_addrOf _ ht) (addrOf_region_lt _ ht)
  have hguarded {t : Target} {c : Instr} (ht : t.ofRegion = true)
      (hg : s.part.refusesStore (addrOf s.part.path.straps t) = true)
      (hc : exec c s = .next ⟨s.pending, settle (guardedWrite t v s.part)⟩) : guarded c (addrOf s.part.path.straps t) := by
    refine ⟨fun hport => by rw [hc, guardedWrite_refused hport hg], fun hport => ?_⟩
    rw [hc, guardedWrite_busy hport, memoryAccess_write (evenAddr_addrOf _ ht)]
  have hsettings (w : Fin 32) : exec (.settingsRecordWrite w v) s
      = .next ⟨s.pending, settle (guardedWrite (.settings w) v s.part)⟩ := exec_writeRow hs (t := .settings w) rfl
  have hline (t : Fin 16) (w : Fin 32) (hw : 1 ≤ w.val) : exec (.templateLineWrite t w v) s
      = .next ⟨s.pending, settle (guardedWrite (.template t w) v s.part)⟩ := by
    rw [exec_writeRow hs (c := .templateLineWrite t w v) (t := .template t w) (f := templateWrite t w v) rfl,
      templateWrite_line hw]
  refine ⟨fun m w => ?scheme, ?day, fun w hst => ?settings, fun w hst => ?settingsGuard, fun t w hlow hhigh hcount => ?line,
    fun t w hlow hhigh hcount => ?lineGuard, fun t w hw => ?template, fun t => ?useCount, fun n k hk => ?order,
    fun i => ?exposure, fun a ha => ?plain⟩
  case scheme =>
    exact hregion (t := .scheme m w) rfl (refusesStore_unguarded (decodeAddr_addrOf _ rfl) nofun nofun)
      (exec_writeRow hs (t := .scheme m w) rfl) fun _ => stored_scheme v (decodeAddr_addrOf _ rfl)
  case day =>
    exact hregion (t := .stand 6) rfl (refusesStore_unguarded (decodeAddr_addrOf _ rfl) nofun nofun)
      (exec_writeRow hs (t := .stand 6) rfl) fun _ => stored_day v (decodeAddr_addrOf _ rfl)
  case settings =>
    have hg : s.part.refusesStore (addrOf s.part.path.straps (.settings w)) = false := by
      rw [refusesStore_settings, hst]
      rfl
    refine hregion (t := .settings w) rfl hg (by rw [hsettings, guardedWrite_stores hg]) fun path => ?_
    rw [setPath_stand, stored_settings v (decodeAddr_addrOf _ rfl)]
    exact ⟨rfl, rfl⟩
  case settingsGuard =>
    exact hguarded (t := .settings w) rfl (by rw [refusesStore_settings, decide_eq_true hst]) (hsettings w)
  case line =>
    have hg : s.part.refusesStore (addrOf s.part.path.straps (.template t w)) = false := by
      rw [refusesStore_template, hcount]
      simp
    exact hregion (t := .template t w) rfl hg (by rw [hline t w hlow, guardedWrite_stores hg]) fun _ => trivial
  case lineGuard =>
    exact hguarded (t := .template t w) rfl (by rw [refusesStore_template, decide_eq_true ⟨hlow, hhigh, hcount⟩])
      (hline t w hlow)
  case template =>
    have hg : s.part.refusesStore (addrOf s.part.path.straps (.template t w)) = false := by
      rw [refusesStore_template, decide_eq_false (by omega)]
    refine hregion (t := .template t w) rfl hg (exec_writeTaken hs ?_) fun _ => trivial
    exact (takeWrite_template v (decodeAddr_addrOf _ rfl)).trans
      ((templateWrite_line (by omega) t v s.part).trans (guardedWrite_stores hg v))
  case useCount =>
    exact exec_writeTaken hs (takeWrite_template v (t := t) (k := 0) (decodeAddr_addrOf _ (t := .template t 0) rfl))
  case order =>
    refine hregion (t := .order n k) rfl (refusesStore_order _ n k) (exec_writeTaken hs ?_) fun path m =>
      stored_laterWord v hk (decodeAddr_order _ n k) m
    exact (takeWrite_order v (decodeAddr_order _ n k)).trans (if_neg (by omega))
  case exposure =>
    exact hregion (t := .exposure i) rfl (refusesStore_unguarded (decodeAddr_addrOf _ rfl) nofun nofun)
      (exec_writeTaken hs (takeWrite_exposure v (decodeAddr_addrOf _ (t := .exposure i) rfl)))
      fun _ => trivial
  case plain =>
    obtain ⟨heven, hlt⟩ := plain_of_decodeAddr ha
    exact hstores heven.symm (heven ▸ hlt) (refusesStore_unguarded ha nofun nofun) (exec_writeTaken hs (takeWrite_plain v ha))
      fun _ => trivial

end Sys2Proof.Machine
end

section
/-! The memory port's completions and the controller's reads, and the statement of chapter 9 on them. -/

namespace Sys2Proof.Machine

/-! ## A read that is carried to memory -/

/-- A read that finds the port free is served as the event ends, with the word as memory holds it (R154). -/
theorem settle_read {b : Block} (hport : b.path.port = none) (hreset : b.inReset = false) (a : Nat) :
    let d := nvTake (memoryAccess (.read a) b)
    settle (memoryAccess (.read a) b) = d.setPath { d.path with
      ctlWait := none
      port := some ⟨.controller, .read (evenAddr a), readWord b.mem (evenAddr a), true, [readWord b.mem (evenAddr a)]⟩ } := by
  intro d
  obtain ⟨hwait, hbus, -⟩ := nvTake_memory (memoryAccess_bus (.read a) b)
  have hfree : d.path.port = none := (nvTake_port _).trans hport
  have hrun : d.inReset = false := by simpa [d, Block.inReset, memoryAccess] using hreset
  have hmem : d.mem = b.mem := by simp [d, memoryAccess]
  have hnone : d.waitingRefused = none := waitingRefused_none fun x v h => by
    rw [hbus] at h
    cases h
  rw [settle, arbitrate_controller hrun hfree hwait hnone, takeController_next (acc := .read (evenAddr a)) (rest := none) rfl,
    accessMemory_read, ← hmem]
  rfl

theorem readWord_even (m : List Host.Cell) (a : Nat) : readWord m (evenAddr a) = readWord m a := by
  have heven : evenAddr (evenAddr a) = evenAddr a := by simp only [evenAddr]; omega
  simp only [readWord, heven]

/-- A word of RAM that the controller reads from memory: not a live word and not a command word. -/
def Target.readsRam : Target → Prop
  | .plain _ | .settings _ | .exposure _ | .scheme _ _ | .frame _ _ _ => True
  | .stand w => w.val = 6
  | .order _ k => k.val ≠ 0
  | .template _ k => k.val ≠ 0
  | .header _ k => k.val ≤ 5
  | _ => False

theorem takeRead_ram {a : Nat} {b : Block} (h : (decodeAddr b.path.straps a).readsRam) :
    takeRead a b = memoryAccess (.read a) b := by
  unfold takeRead
  generalize decodeAddr b.path.straps a = t at h
  cases t with
  | plain | settings | exposure | scheme | frame => rfl
  | noMemory | nv | gateView => exact h.elim
  | stand w =>
    obtain rfl : w = 6 := Fin.ext h
    rfl
  | order n k => exact if_neg h
  | template t k => exact if_neg h
  | header p k =>
    simp only [Target.readsRam] at h
    simp only [headerRead]
    split
    · omega
    · omega
    · rfl

/-! ## An access above the NV store -/

theorem holds_outside {b : Block} (hreset : b.inReset = false) {a : Access} (h : nvBase ≤ evenAddr a.addr) :
    b.holds a = false := by
  simp only [Block.holds, hreset, inWindow_nv _ h, Bool.and_false, Bool.or_self]

theorem exec_noMemory {s : State} (hbus : s.part.path.bus = .idle) (hreset : s.part.inReset = false) {a : Access}
    (h : 0x22000 ≤ a.addr) :
    exec (.controllerMemoryAccess a) s = .next ⟨s.pending, settle (takeAccess a s.part)⟩ := by
  rw [exec_memoryAccess, onBus_taken hbus (holds_outside hreset (by simp only [nvBase, evenAddr]; omega))]

/-! ## What the completion of an access does -/

section
variable {s : State} {v : Service} (hport : s.part.path.port = some v)
include hport

/-- An access that is not its set's last, and the last of the Page Unit's writes, only free the port. -/
theorem exec_complete_frees (h : v.last = false ∨ v.owner = .pageWrites) :
    exec .memoryAccessComplete s = .next ⟨s.pending, settle (freePort s.part)⟩ := by
  have hexec : exec .memoryAccessComplete s = completing (fun _ => true) s := rfl
  simp only [hexec, completing, event, completePort, hport, if_true]
  rcases h with h | h
  · simp [h]
  · simp [h, ownerDone]

theorem exec_complete_controller (hlast : v.last = true) (howner : v.owner = .controller) :
    exec .memoryAccessComplete s = .next ⟨s.pending, settle (controllerDone v.got (freePort s.part))⟩ := by
  have hexec : exec .memoryAccessComplete s = completing (fun _ => true) s := rfl
  rw [hexec, completing_last hport hlast rfl, howner]
  rfl

theorem exec_initialisationEnd (hlast : v.last = true) (howner : v.owner = .windowInit) :
    exec .windowInitialisationEnd s = .next ⟨s.pending, settle (initialisationDone (freePort s.part))⟩ :=
  completing_owner hport hlast howner

end

/-- A window access that was held is held no longer once the stand is HELD (R175). -/
theorem takeHeld_standHeld {b : Block} (hreset : b.inReset = false) {a : Access} (h : b.path.bus = .held a) :
    takeHeld (standHeld b) = takeAccess a (setBus .idle (standHeld b)) := by
  have hbus : (standHeld b).path.bus = .held a := h
  have hrun : (standHeld b).inReset = false := hreset
  have hst : (standHeld b).stand.st = .held := rfl
  have hfree : (standHeld b).holds a = false := by simp [Block.holds, hrun, hst]
  simp only [takeHeld, hbus, hfree, Bool.false_eq_true, if_false]

/-! ## The live words -/

section
variable {s : State} (h : s.part.awake)
include h

/-- A read of a live stand word without an effect answers its value. -/
theorem exec_standValue {w : Fin 64} (hw : w.val ≠ 3 ∧ w.val ≠ 5 ∧ w.val ≠ 6 ∧ w.val ≠ 30) :
    exec (.controllerMemoryAccess (.read (addrOf s.part.path.straps (.stand w)))) s
      = .next ⟨s.pending, settle (answer (standValue s.part w) s.part)⟩ := by
  obtain ⟨h3, h5, h6, h30⟩ := hw
  rw [exec_standRead h (fun hw => h6 (congrArg Fin.val hw))]
  unfold standRead
  split
  case h_5 => rfl
  all_goals omega

theorem exec_gateView (k : Fin 8) (w : Fin 4) :
    exec (.controllerMemoryAccess (.read (addrOf s.part.path.straps (.gateView k w)))) s
      = .next ⟨s.pending, settle (answer (viewWord s.part.gate.list k w) s.part)⟩ := by
  have hdecode := decodeAddr_addrOf s.part.path.straps (t := .gateView k w) rfl
  rw [exec_atOnce h (by simp only [servedAtOnce, Access.addr, hdecode])]
  simp only [takeAccess, takeRead, hdecode]

theorem exec_useCount (t : Fin 16) :
    exec (.controllerMemoryAccess (.read (addrOf s.part.path.straps (.template t 0)))) s
      = .next ⟨s.pending, settle (answer (word s.part.pages.useCount[t]) s.part)⟩ := by
  have hdecode := decodeAddr_addrOf s.part.path.straps (t := .template t 0) rfl
  rw [exec_atOnce h (by simp only [servedAtOnce, Access.addr, hdecode, decide_true])]
  simp only [takeAccess, takeRead, hdecode]
  rfl

theorem exec_headerRead (p : Fin 4) {k : Fin 8} (hk : 6 ≤ k.val) :
    exec (.controllerMemoryAccess (.read (addrOf s.part.path.straps (.header p k)))) s
      = .next ⟨s.pending, settle (headerRead (addrOf s.part.path.straps (.header p k)) p k s.part)⟩ := by
  have hdecode := decodeAddr_addrOf s.part.path.straps (t := .header p k) rfl
  rw [exec_atOnce h (by simp only [servedAtOnce, Access.addr, hdecode, decide_eq_true hk])]
  simp only [takeAccess, takeRead, hdecode]

end

theorem standValue_unassigned (b : Block) {w : Fin 64} (h : 33 ≤ w.val) : standValue b w = 0 := by
  unfold standValue
  split
  case h_30 => rfl
  all_goals omega

/-- A narrow register fills the low bits of its word. -/
theorem setWidth_toNat {n : Nat} (x : BitVec n) : x.setWidth 16 = BitVec.ofNat 16 x.toNat :=
  BitVec.eq_of_toNat_eq (by simp)

/-- The high bits of an entry's hold stand in its word 3 (R184). -/
theorem entryWord_hold (e : Entry) : entryWord e 3 = BitVec.ofNat 16 (e.hold / 65536 % 16 + e.skipped * 256) := by
  have hbits : bits (BitVec.ofNat 16 (e.hold / 65536)) 0 4 = e.hold / 65536 % 16 := by
    simp only [bits, BitVec.toNat_ofNat]
    omega
  rw [← hbits]
  rfl

/-- The frames awaiting label are those in DUE, SENT and UNSURE (R119). -/
theorem awaiting_eq (pg : Page) : awaiting pg = ((List.finRange 72).filter (fun f =>
    decide (pg.frames[f].label = .due ∨ pg.frames[f].label = .sent ∨ pg.frames[f].label = .unsure))).length := by
  have hframes : pg.frames.toList = (List.finRange 72).map (fun f => pg.frames[f]) := by
    apply List.ext_getElem <;> simp
  rw [awaiting, hframes, List.filter_map, List.length_map]
  congr 2
  funext f
  rw [Bool.eq_iff_iff, decide_eq_true_iff]
  exact awaits_iff

/-- Settles O59: the reads that go to memory, the completions, the accesses above the NV store, the live words, the codes. -/
theorem memoryAccessCompletes : Obligations.MemoryAccessCompletes := by
  refine ⟨fun a s hs hram => ?ram, fun v s hport => ?completes, fun a v s hbus hreset ha => ?above, fun s h => ?live, ?codes⟩
  case ram =>
    have htake : takeRead a s.part = memoryAccess (.read a) s.part := takeRead_ram hram
    have hexec : exec (.controllerMemoryAccess (.read a)) s = .next ⟨s.pending, settle (memoryAccess (.read a) s.part)⟩ := by
      rw [exec_memoryAccess, onBus_reached hs, takeAccess, htake]
    obtain ⟨-, hreset, -⟩ := hs
    refine ⟨fun hport => ?_, fun _ => hexec⟩
    have hread := settle_read hport hreset a
    refine ⟨_, _, hexec.trans (by rw [hread]), rfl, rfl, rfl, by rw [readWord_even], ?_, ?_, ?_⟩
    · exact (nvTake_memory (memoryAccess_bus (.read a) s.part)).2.1
    · simp [memoryAccess]
    · rw [← hread]
      exact settle_keptAtEventEnd (memoryAccess (.read a) s.part)
  case completes =>
    refine ⟨fun a w hlast howner hbus hgot => ?_, fun a w hlast howner hbus => ?_,
      fun h => exec_complete_frees hport h, fun hlast howner hreset => ⟨fun hbus => ?_, fun a hbus => ?_⟩⟩
    · rw [exec_complete_controller hport hlast howner]
      simp only [controllerDone, freePort, setPath_path, hbus, hgot]
      rfl
    · rw [exec_complete_controller hport hlast howner]
      simp only [controllerDone, freePort, setPath_path, hbus]
      rfl
    · rw [exec_initialisationEnd hport hlast howner, initialisationDone, takeHeld_idle (b := standHeld (freePort s.part)) hbus]
      rw [standHeld_eq, freePort, ← hbus]
      rfl
    · rw [exec_initialisationEnd hport hlast howner, initialisationDone,
        takeHeld_standHeld (b := freePort s.part) hreset hbus]
      rfl
  case above =>
    have hdecode : decodeAddr s.part.path.straps a = .noMemory := decodeAddr_noMemory _ ha
    refine ⟨(exec_noMemory hbus hreset (a := .read a) ha).trans ?_, (exec_noMemory hbus hreset (a := .write a v) ha).trans ?_⟩
    · simp only [takeAccess, takeRead, hdecode]
      rfl
    · rw [takeAccess, takeWrite_noMemory v hdecode]
  case live =>
    intro b o l bit num reads
    have hstand (w : Fin 64) (hw : w.val ≠ 3 ∧ w.val ≠ 5 ∧ w.val ≠ 6 ∧ w.val ≠ 30) {x : Word}
        (hx : standValue s.part w = x) : reads (2 * w.val) x := hx ▸ exec_standValue h hw
    have hview (k : Fin 8) (w : Fin 4) {offset : Nat} {x : Word} (hoffset : offset = 0x0500 + 8 * k.val + 2 * w.val)
        (hx : viewWord s.part.gate.list k w = x) : reads offset x := hoffset ▸ hx ▸ exec_gateView h k w
    have hheader (p : Fin 4) (k : Fin 8) (hk : 6 ≤ k.val) {offset : Nat} {x : Word}
        (hoffset : offset = 0x0A00 + 0x380 * p.val + 2 * k.val)
        (hx : headerRead (addrOf s.part.path.straps (.header p k)) p k s.part = answer x s.part) : reads offset x :=
      hoffset ▸ (exec_headerRead h p hk).trans (by rw [hx]; rfl)
    refine ⟨hstand 0 (by decide) rfl, hstand 1 (by decide) (setWidth_toNat _), hstand 2 (by decide) rfl,
      hstand 4 (by decide) rfl, hstand 7 (by decide) rfl, hstand 8 (by decide) rfl, hstand 9 (by decide) rfl,
      hstand 10 (by decide) (setWidth_toNat o.reading), hstand 11 (by decide) rfl, hstand 12 (by decide) rfl,
      hstand 13 (by decide) rfl, hstand 14 (by decide) rfl, hstand 15 (by decide) rfl, hstand 16 (by decide) rfl,
      hstand 17 (by decide) rfl, hstand 18 (by decide) rfl, hstand 19 (by decide) rfl, hstand 20 (by decide) rfl,
      hstand 21 (by decide) rfl, hstand 22 (by decide) rfl, hstand 23 (by decide) rfl, hstand 24 (by decide) rfl,
      hstand 25 (by decide) rfl, hstand 26 (by decide) rfl, hstand 27 (by decide) rfl, hstand 28 (by decide) rfl,
      hstand 29 (by decide) rfl, hstand 31 (by decide) rfl, hstand 32 (by decide) rfl,
      fun i hlow hhigh => ?unassigned, fun k => ?view, exec_useCount h,
      fun p => ⟨hheader p 6 (by decide) (by omega) (by rw [← awaiting_eq]; rfl), hheader p 7 (by decide) (by omega) rfl⟩⟩
    case unassigned => exact hstand ⟨i, hhigh⟩ (by dsimp only; omega) (standValue_unassigned s.part hlow)
    case view =>
      cases hk : s.part.gate.list[k.val]? with
      | none =>
        have hnone (w : Fin 4) : viewWord s.part.gate.list k w = if w.val = 0 then 0x00FF else 0 := by
          simp only [viewWord, hk]
        exact ⟨hview k 0 (by omega) (hnone 0), hview k 1 (by omega) (hnone 1), hview k 2 (by omega) (hnone 2),
          hview k 3 (by omega) (hnone 3)⟩
      | some e =>
        have hentry (w : Fin 4) : viewWord s.part.gate.list k w = entryWord e w.val := by simp only [viewWord, hk]
        exact ⟨hview k 0 (by omega) (hentry 0), hview k 1 (by omega) (hentry 1), hview k 2 (by omega) (hentry 2),
          hview k 3 (by omega) ((hentry 3).trans (entryWord_hold e))⟩
  case codes => exact ⟨rfl, rfl, rfl, rfl, rfl, rfl, rfl, rfl, rfl, rfl, rfl, rfl, rfl, rfl, rfl⟩

end Sys2Proof.Machine
end

section
/-! Stand Control: the live words a controller write sets, the attention lines, the stand clock, RUN, HOLD and SOFT-RESET, and the
statements of chapter 10 on them. -/

namespace Sys2Proof.Machine

/-! ## The live words that a write sets -/

/-- A row that sets a live stand word takes it in the access, whatever is on the bus (log 2). -/
theorem exec_standSets {s : State} (h : s.part.awake) {w : Fin 64} (hw : w ≠ 6) {c : Instr} {v : Word} {f : Block → Block}
    (hc : exec c s = event (writeAt (.stand w) v f) s) : exec c s = .next ⟨s.pending, f s.part⟩ := by
  rw [hc, event, writeAt_stand_awake h hw]

/-- Settles O13: each row is the access of its own stand word. -/
theorem liveRegisterWrites : Obligations.LiveRegisterWrites := by
  intro v s h
  exact ⟨exec_standSets h (w := 1) (f := flagsWrite v) (by decide) rfl,
    exec_standSets h (w := 2) (f := levelsWrite v) (by decide) rfl,
    exec_standSets h (w := 7) (f := fun b => b.setGate { b.gate with staged := v }) (by decide) rfl,
    exec_standSets h (w := 28) (f := openingWrite false v) (by decide) rfl,
    exec_standSets h (w := 29) (f := openingWrite true v) (by decide) rfl,
    exec_standSets h (w := 26) (f := openOp) (by decide) rfl⟩

/-! ## The attention lines -/

theorem notice_index_lt (n : Notice) : n.index < 8 := by cases n <;> decide

/-- Each place among the levels is a factor's. -/
theorem exists_notice_index : ∀ k : Fin 8, ∃ n : Notice, n.index = k.val
  | 0 => ⟨.gate, rfl⟩
  | 1 => ⟨.order, rfl⟩
  | 2 => ⟨.film, rfl⟩
  | 3 => ⟨.page, rfl⟩
  | 4 => ⟨.print, rfl⟩
  | 5 => ⟨.account, rfl⟩
  | 6 => ⟨.refused, rfl⟩
  | 7 => ⟨.stand, rfl⟩

/-- The highest level is the greatest of 0 and the levels of the set flags. -/
theorem highestLevel_max (flags : BitVec 8) (levels : Word) :
    (0 :: ((List.range 8).filter (fun k => flags.getLsbD k)).map (levelOf levels)).max? = some (highestLevel flags levels) := by
  rw [List.max?_cons', List.foldl_map, highestLevel]

theorem highestLevel_mem (flags : BitVec 8) (levels : Word) : highestLevel flags levels = 0
    ∨ ∃ n : Notice, flags.getLsbD n.index = true ∧ levelOf levels n.index = highestLevel flags levels := by
  obtain ⟨hmem, -⟩ := List.max?_eq_some_iff.mp (highestLevel_max flags levels)
  refine (List.mem_cons.mp hmem).imp_right fun hlevel => ?_
  obtain ⟨k, hk, hlevel⟩ := List.mem_map.mp hlevel
  obtain ⟨hlt, hflag⟩ := List.mem_filter.mp hk
  obtain ⟨n, rfl⟩ := exists_notice_index ⟨k, List.mem_range.mp hlt⟩
  exact ⟨n, hflag, hlevel⟩

theorem le_highestLevel {flags : BitVec 8} {n : Notice} (h : flags.getLsbD n.index = true) (levels : Word) :
    levelOf levels n.index ≤ highestLevel flags levels := by
  obtain ⟨-, hle⟩ := List.max?_eq_some_iff.mp (highestLevel_max flags levels)
  exact hle _ (.tail _ (List.mem_map_of_mem (List.mem_filter.mpr ⟨List.mem_range.mpr (notice_index_lt n), h⟩)))

theorem levelOf_le (levels : Word) (k : Nat) : levelOf levels k ≤ 3 := Nat.le_of_lt_succ (Nat.mod_lt _ (by decide))

theorem highestLevel_le (flags : BitVec 8) (levels : Word) : highestLevel flags levels ≤ 3 := by
  rcases highestLevel_mem flags levels with h | ⟨n, -, h⟩
  · omega
  · exact h ▸ levelOf_le levels n.index

theorem attention_asleep {b : Block} (h : b.inReset = true ∨ b.stand.st = .starting) : b.attention = 0 :=
  if_pos (by simpa using h)

theorem attention_awake {b : Block} (h : b.awake) : b.attention = highestLevel b.stand.flags b.stand.levels :=
  if_neg (by simpa using h)

/-- Settles O14: 0 while the lines are still, else the highest level, which some set flag has. -/
theorem attentionIsHighestSetLevel : Obligations.AttentionIsHighestSetLevel := by
  intro b
  have hreset : b.inReset = true ↔ b.resetPin = true ∨ b.supplyLow = true := Bool.or_eq_true_iff
  refine ⟨fun h => attention_asleep (by rwa [hreset, or_assoc]), fun hpin hlow hst => ?awake, ?bound⟩
  case awake =>
    rw [attention_awake ⟨by simp [Block.inReset, hpin, hlow], hst⟩]
    exact ⟨fun n hn => le_highestLevel hn _, highestLevel_mem _ _⟩
  case bound =>
    by_cases h : b.awake
    · exact attention_awake h ▸ highestLevel_le _ _
    · rw [attention_asleep (by simpa [imp_iff_not_or] using h)]
      omega

/-! ## The stand clock -/

theorem filmTick_eq (f : Film) [Decidable (f.st = .leader ∨ f.st = .advancing ∨ f.st = .rewinding)] : f.tick = { f with
    elapsed := if f.st = .leader ∨ f.st = .advancing ∨ f.st = .rewinding then min f.limit (f.elapsed + 1) else f.elapsed } := by
  simp only [Film.tick, moves_iff]
  split <;> rfl

theorem linkTick_eq (l : Link) : l.tick = { l with
    elapsed := if l.st = .awaiting then min l.replyLimit (l.elapsed + 1) else l.elapsed } := by
  unfold Link.tick
  split <;> rfl

/-- A limit is counted out at an increment: a film's or the printer's. -/
theorem countTick_limitOut_iff {b : Block} : (countTick b).limitOut = true ↔
    ((b.film.st = .leader ∨ b.film.st = .advancing ∨ b.film.st = .rewinding) ∧ b.film.limit ≤ b.film.elapsed + 1)
      ∨ (b.link.st = .awaiting ∧ b.link.replyLimit ≤ b.link.elapsed + 1) := by
  rw [Block.limitOut, Bool.or_eq_true_iff, Bool.and_eq_true_iff, countTick_filmOut_iff, countTick_link, linkTick_limitOut_iff]

section
variable {b : Block} (hreset : b.inReset = false)
include hreset

theorem clockTick_counts (h : ¬ (countTick b).limitOut = true) : clockTick b = countTick b := by
  rw [clockTick, if_neg (by simp [hreset]), if_neg h]

theorem clockTick_runsOut (h : (countTick b).limitOut = true) : clockTick b = settle (runOut (countTick b)) := by
  rw [clockTick, if_neg (by simp [hreset]), if_pos h]

end

/-- Settles O18: what an increment counts, and what it does by whether a limit is counted out. -/
theorem clockIncrementCounts : Obligations.ClockIncrementCounts := by
  intro s f l moves counted out
  have hcounted : countTick s.part = counted := by
    simp only [countTick, setStand_film, setStand_link, filmTick_eq, linkTick_eq]
    rfl
  have hout : (countTick s.part).limitOut = true ↔ out := countTick_limitOut_iff
  rw [← hcounted, exec_standClockIncrement]
  refine ⟨rfl, fun h => ?still, fun hreset h => ?counts, fun hreset h => ?runsOut⟩
  case still => rw [clockTick_inReset h]
  case counts => rw [clockTick_counts hreset (mt hout.mp h)]
  case runsOut => rw [clockTick_runsOut hreset (hout.mpr h)]; rfl

/-! ## The settings record -/

theorem firstInvalid_none_iff {x : Settings} : x.firstInvalid = none ↔ ∀ i, x.fieldValid i = true := by
  simp [Settings.firstInvalid]

theorem firstInvalid_some_iff {x : Settings} {i : Fin 32} :
    x.firstInvalid = some i ↔ x.fieldValid i = false ∧ ∀ j, j < i → x.fieldValid j = true := by
  rw [Settings.firstInvalid, ← Fin.find?_eq_find?_finRange, Fin.find?_eq_some_iff]
  simp

section
variable (x : Settings)

/-- Words 8 to 15 are the prices (R85, R182). -/
theorem fieldValid_price {i : Fin 32} (hlow : 8 ≤ i.val) (hhigh : i.val ≤ 15) :
    x.fieldValid i = true ↔ x[i].toNat ≤ 9999 := by
  unfold Settings.fieldValid
  split
  case h_9 | h_10 | h_11 | h_12 | h_13 | h_14 | h_15 | h_16 => exact decide_eq_true_iff
  case h_21 => grind
  all_goals omega

/-- Words 20 to 31 carry no field (R182). -/
theorem fieldValid_unassigned {i : Fin 32} (h : 20 ≤ i.val) : x.fieldValid i = true := by
  unfold Settings.fieldValid
  split
  case h_21 => rfl
  all_goals omega

/-- The words of the fields with a range of their own. -/
def ownRangeWords : List (Fin 32) := [0, 1, 2, 3, 4, 5, 6, 7, 16, 17, 18, 19]

theorem settingsWord_cases (i : Fin 32) : i ∈ ownRangeWords ∨ (8 ≤ i.val ∧ i.val ≤ 15) ∨ 20 ≤ i.val := by
  revert i
  decide

/-- Each field's range (R166, R182). -/
theorem fieldsValid_iff : (∀ i, x.fieldValid i = true) ↔
    x[0].toNat ≤ 1 ∧ (-16 ≤ x[1].toInt ∧ x[1].toInt ≤ 16) ∧ x[2].toNat ≤ 1023 ∧ (x[2].toNat < x[3].toNat ∧ x[3].toNat ≤ 1023)
      ∧ (4 ≤ x[4].toNat ∧ x[4].toNat ≤ 16) ∧ x[5].toNat ≤ 4 ∧ (10 ≤ x[6].toNat ∧ x[6].toNat ≤ 200)
      ∧ (100 ≤ x[7].toNat ∧ x[7].toNat ≤ 6000) ∧ (∀ i : Fin 32, 8 ≤ i.val → i.val ≤ 15 → x[i].toNat ≤ 9999)
      ∧ x[16].toNat ≤ 1 ∧ x[17].toNat ≤ 2 ∧ x[18].toNat ≤ 3 ∧ (10 ≤ x[19].toNat ∧ x[19].toNat ≤ 255) := by
  constructor
  · intro h
    exact ⟨of_decide_eq_true (h 0), of_decide_eq_true (h 1), of_decide_eq_true (h 2), (of_decide_eq_true (h 3)).symm,
      of_decide_eq_true (h 4), of_decide_eq_true (h 5), of_decide_eq_true (h 6), of_decide_eq_true (h 7),
      fun i hlow hhigh => (fieldValid_price x hlow hhigh).mp (h i), of_decide_eq_true (h 16), of_decide_eq_true (h 17),
      of_decide_eq_true (h 18), of_decide_eq_true (h 19)⟩
  · rintro ⟨h0, h1, h2, h3, h4, h5, h6, h7, hprice, h16, h17, h18, h19⟩ i
    have hown : ∀ j ∈ ownRangeWords, x.fieldValid j = true := by
      simp only [ownRangeWords, List.forall_mem_cons]
      exact ⟨decide_eq_true h0, decide_eq_true h1, decide_eq_true h2, decide_eq_true h3.symm, decide_eq_true h4,
        decide_eq_true h5, decide_eq_true h6, decide_eq_true h7, decide_eq_true h16, decide_eq_true h17,
        decide_eq_true h18, decide_eq_true h19, List.forall_mem_nil _⟩
    rcases settingsWord_cases i with hi | ⟨hlow, hhigh⟩ | hi
    · exact hown i hi
    · exact (fieldValid_price x hlow hhigh).mpr (hprice i hlow hhigh)
    · exact fieldValid_unassigned x hi

/-- The parity and the rate by their codes (R182). -/
theorem parity_code : (x[17] = 0 → x.parity = .none) ∧ (x[17] = 1 → x.parity = .even) ∧ (x[17] = 2 → x.parity = .odd) := by
  refine ⟨fun h => ?_, fun h => ?_, fun h => ?_⟩ <;> simp [Settings.parity, h]

theorem rate_code (h : x[18].toNat ≤ 3) : x.rate.val = x[18].toNat := Nat.mod_eq_of_lt (Nat.lt_succ_of_le h)

end

/-! ## RUN -/

theorem exec_run {s : State} (h : s.part.reached) : exec .run s = .next ⟨s.pending, settle (runOp s.part)⟩ := by
  have hexec : exec .run s = execRun s := rfl
  simp only [hexec, execRun, event, writeAt_reached h]

/-- The stand RUNNING with the copy of the record latched, before the link takes its settings (R165, R167). -/
def runLatched (b : Block) : Block :=
  { b with stand := { b.stand with status := none, latched := b.stand.copy, st := .running } }

section
variable {b : Block}

theorem linkLatch_busy (h : b.link.st = .sending ∨ b.link.st = .awaiting) :
    linkLatch b = { b with link := { b.link with settingsPending := true } } := if_pos h

section
variable (hfree : ¬ (b.link.st = .sending ∨ b.link.st = .awaiting))
include hfree

/-- A free link takes its settings at once; one that was OFF goes to IDLE (R148). -/
theorem linkLatch_printerOn (h : Settings.printerOn b.stand.latched = true) : linkLatch b = selectFrame { b with
    link := { settingsTaken b with st := if b.link.st = .off then .idle else b.link.st } } := by
  rw [linkLatch, if_neg hfree, takeSettings, if_pos h]
  by_cases hoff : b.link.st = .off <;> simp only [hoff, if_true, if_false] <;> rfl

theorem linkLatch_printerOff (h : Settings.printerOn b.stand.latched = false) :
    linkLatch b = { b with link := linkOff (settingsTaken b) } := by
  have htake : takeSettings b = { b with link := linkOff (settingsTaken b) } := by
    rw [takeSettings, if_neg (by simp [h])]
    rfl
  rw [linkLatch, if_neg hfree, htake, selectFrame_busy (by simp [linkOff])]

end

section
variable (hst : b.stand.st = .held)
include hst

theorem runOp_filling (h : b.nv.fill = .filling) : runOp b = refuseAt (.stand 0) b := by
  simp only [runOp, hst, h, if_true]

theorem runOp_valid (hfill : b.nv.fill ≠ .filling) (h : ∀ i, Settings.fieldValid b.stand.copy i = true) :
    runOp b = linkLatch (runLatched b) := by
  simp only [runOp, hst, hfill, if_false, validate, firstInvalid_none_iff.mpr h]
  rfl

theorem runOp_invalid {i : Fin 32} (hfill : b.nv.fill ≠ .filling) (h : Settings.fieldValid b.stand.copy i = false)
    (hfirst : ∀ j, j < i → Settings.fieldValid b.stand.copy j = true) :
    runOp b = refuseAt (.settings i) { b with stand := { b.stand with status := some i } } := by
  simp only [runOp, hst, hfill, if_false, validate, firstInvalid_some_iff.mpr ⟨h, hfirst⟩]
  rfl

end

section
variable (hst : b.stand.st = .holding)
include hst

theorem runOp_resetting (h : b.stand.softReset = true) : runOp b = refuseAt (.stand 0) b := by
  simp only [runOp, hst, h, if_true]

theorem runOp_holding (h : b.stand.softReset = false) : runOp b = { b with stand := { b.stand with st := .running } } := by
  simp only [runOp, hst, h, Bool.false_eq_true, if_false]
  rfl

end

theorem runOp_running (h : b.stand.st = .running) : runOp b = b := by simp only [runOp, h]

end

/-! ## HOLD -/

theorem exec_hold {s : State} (h : s.part.reached) : exec .hold s = .next ⟨s.pending, settle (holdOp s.part)⟩ := by
  have hexec : exec .hold s = execHold s := rfl
  simp only [hexec, execHold, event, writeAt_reached h]

section
variable {b : Block}

theorem holdOp_quiet (h : b.stand.st = .running) (hgate : b.gate.st = .empty ∨ b.gate.st = .done) : holdOp b = { b with
    stand := { b.stand with st := .held, flags := b.stand.flags ||| 0x80 } } := by
  rw [holdOp, if_pos h, if_pos (gateQuiet_iff.mpr hgate), standHeld_eq]

theorem holdOp_inCycle (h : b.stand.st = .running) (hgate : ¬ (b.gate.st = .empty ∨ b.gate.st = .done)) :
    holdOp b = { b with stand := { b.stand with st := .holding } } := by
  rw [holdOp, if_pos h, if_neg (mt gateQuiet_iff.mp hgate)]
  rfl

theorem holdOp_other (h : b.stand.st ≠ .running) : holdOp b = b := if_neg h

end

/-- Settles O57: RUN and HOLD by the stand's state, the ranges of the fields, and each field's word and encoding. -/
theorem runAndHoldTaken : Obligations.RunAndHoldTaken := by
  refine ⟨fun s hreached => ?commands, fieldsValid_iff, fun x => ?fields⟩
  case commands =>
    intro d copy base latched taken busy quiet valid answers latches
    simp only [answers, exec_run hreached, exec_hold hreached]
    have hlatch : latches → runOp s.part = linkLatch latched := fun ⟨hst, hfill, hvalid⟩ => runOp_valid hst hfill hvalid
    refine ⟨fun h hbusy => ?busy, fun h hfree hon => ?printerOn, fun h hfree hoff => ?printerOff,
      fun i hst hfill hi hfirst => ?invalid, fun hst hfill => ?filling, fun hst hr => ?resetting, fun hst hr => ?holding,
      fun hst => ?running, fun hst hquiet => ?quiet, fun hst hquiet => ?inCycle, fun hst => ?other⟩
    case busy => rw [hlatch h, linkLatch_busy (b := latched) hbusy]
    case printerOn => rw [hlatch h, linkLatch_printerOn (b := latched) hfree hon]; rfl
    case printerOff => rw [hlatch h, linkLatch_printerOff (b := latched) hfree hoff]; rfl
    case invalid => rw [runOp_invalid hst hfill hi hfirst]; rfl
    case filling => rw [runOp_filling hst hfill]; rfl
    case resetting => rw [runOp_resetting hst hr]; rfl
    case holding => rw [runOp_holding hst hr]
    case running => rw [runOp_running hst]
    case quiet => rw [holdOp_quiet hst hquiet]
    case inCycle => rw [holdOp_inCycle hst hquiet]
    case other => rw [holdOp_other hst]
  case fields =>
    obtain ⟨hnone, heven, hodd⟩ := parity_code x
    exact ⟨decide_eq_true_iff, rfl, rfl, rfl, rfl, rfl, rfl, rfl, rfl, rfl, fun k step => rfl, decide_eq_true_iff, hnone, heven,
      hodd, rate_code x, rfl⟩

/-! ## SOFT-RESET -/

theorem exec_softReset {s : State} (h : s.part.reached) :
    exec .softReset s = .next ⟨s.pending, settle (softResetOp s.part)⟩ := by
  have hexec : exec .softReset s = execSoftReset s := rfl
  simp only [hexec, execSoftReset, event, writeAt_reached h]

theorem softResetOp_marked {b : Block} (h : b.stand.softReset = true) : softResetOp b = b := if_pos h

/-- The stand, the refused address and the link at a soft reset, before the gate is told (R169). -/
def softResetBegun (b : Block) : Block := linkReset { b with
  stand := { b.stand with softReset := true, st := if b.stand.st = .running then .holding else b.stand.st },
  path := { b.path with refusedAddr := 0, refusedStage := 0 } }

theorem softResetOp_unmarked {b : Block} (h : b.stand.softReset = false) : softResetOp b = gateReset (softResetBegun b) :=
  if_neg (by simp [h])

theorem softResetBegun_gate (b : Block) : (softResetBegun b).gate = b.gate := by simp [softResetBegun]

theorem gateReset_quiet {b : Block} (h : b.gate.inCycle = false) : gateReset b = completeSoftReset b := if_neg (by simp [h])

section
variable {b : Block} (hcycle : b.gate.inCycle = true)
include hcycle

theorem gateReset_withdrawn (h : b.gate.withdrawPending = true) : gateReset b = b := (if_pos hcycle).trans (if_pos h)

theorem gateReset_marks (h : b.gate.withdrawPending = false) :
    gateReset b = endIfIdle (b.setGate { b.gate with resetPending := true }) :=
  (if_pos hcycle).trans (if_neg (by simp [h]))

end

/-- Settles O25: the mark, then what is put right before the gate is told, and what the gate makes of it. -/
theorem softResetTaken : Obligations.SoftResetTaken := by
  intro s hreached
  rw [exec_softReset hreached]
  refine ⟨fun h => by rw [softResetOp_marked h], fun h => ?_⟩
  intro b
  have hgate : b.gate = s.part.gate := softResetBegun_gate s.part
  have hreset : softResetOp s.part = gateReset b := softResetOp_unmarked h
  rw [hreset, ← hgate]
  refine ⟨fun hcycle => ?quiet, fun hcycle hw => ?withdrawn, fun hcycle hw => ?marks⟩
  case quiet => rw [gateReset_quiet hcycle]
  case withdrawn => rw [gateReset_withdrawn hcycle hw]
  case marks => rw [gateReset_marks hcycle hw]

end Sys2Proof.Machine
end

section
/-! The resets: what stands across a reset and a failed supply, what a starting part does with a held access, the five events of
the reset pin and the supply, and the statement of chapter 10 on them. -/

namespace Sys2Proof.Machine

/-! ## What stands across a reset -/

/-- The controller's own accesses keep their owner; any other completes for nobody (R163, log 23). -/
theorem afterReset_eq (o : Owner) : o.afterReset = if o = .controller ∨ o = .ctlNvRead then o else .lost := by
  cases o <;> simp [Owner.afterReset]

theorem portAfterReset_eq (port : Option Service) : portAfterReset port = port.map (fun v => { v with
    owner := if v.owner = .controller ∨ v.owner = .ctlNvRead then v.owner else .lost }) := by
  simp only [portAfterReset, afterReset_eq]

/-- With no access in service left, an access that a reset has left on the bus is held, so that the next reset leaves it so. -/
theorem busAfterReset_idem (p : Path) : busAfterReset { p with port := none, bus := busAfterReset { p with port := none } }
    = busAfterReset { p with port := none } := by
  unfold busAfterReset
  cases p.bus <;> rfl

/-! ## A failed supply -/

section
variable (count : Nat) (l : List (Nat × Word))

/-- A torn write cycle leaves a value in each of its words and in no other (R117, log 8). -/
theorem tornWords_addresses : (tornWords count l).map (·.1) = l.map (·.1) := by
  rw [tornWords, List.map_map, ← List.zipIdx_map_fst (i := 0) l, List.map_map]
  simp [Function.comp_def]

theorem tornWords_length : (tornWords count l).length = l.length := by simp [tornWords]

end

/-- What a failed supply takes from the memories and the port; the access on the bus is left to the reset that comes with it
(R117, R176, log 8). -/
def supplyLost (b : Block) : Block :=
  let cycle := b.nvCycle.getD []
  { b with
    mem := storeWords (nvCells b.mem) (tornWords b.freeCount cycle), nvCycle := none, path := { b.path with port := none },
    freeCount := b.freeCount + cycle.length }

/-- The start after a failed supply holds the access on the bus once, not twice. -/
theorem startValues_supplyFails (b : Block) (pin low : Bool) :
    startValues ((supplyFails b).setPins pin low) = startValues ((supplyLost b).setPins pin low) := by
  have hpath : pathAfterReset (supplyFails b).path = pathAfterReset (supplyLost b).path := by
    simp only [pathAfterReset, supplyFails, supplyLost, setFreeCount_path, setNvCycle_path, setMem_path, setPath_path,
      busAfterReset_idem]
  have hparts (c d : Block) (h : pathAfterReset c.path = pathAfterReset d.path) :
      startValues { d with path := c.path } = startValues d := by simp only [startValues, h]
  exact hparts (supplyFails b) ((supplyLost b).setPins pin low) hpath

/-! ## Starting -/

section
variable {b : Block} (straps : BitVec 2)

theorem startUnlessHeld_held (h : b.inReset = true) : startUnlessHeld straps b = startValues b := if_pos h

theorem startUnlessHeld_free (h : b.inReset = false) : startUnlessHeld straps b = startPart straps b := if_neg (by simp [h])

end

theorem startUnlessHeld_supplyFails (straps : BitVec 2) (b : Block) (pin low : Bool) :
    startUnlessHeld straps ((supplyFails b).setPins pin low) = startUnlessHeld straps ((supplyLost b).setPins pin low) := by
  simp only [startUnlessHeld, startPart, startValues_supplyFails]
  rfl

/-- While the window is initialised only an access of the window is held (R159, R175). -/
theorem holds_starting {b : Block} (hreset : b.inReset = false) (hst : b.stand.st = .starting) (a : Access) :
    b.holds a = inWindow b.path.straps (evenAddr a.addr) := by
  simp only [Block.holds, hreset, hst, Bool.false_or, decide_true, Bool.true_and]

/-! ## The five events -/

section
variable (s : State) (straps : BitVec 2)

theorem exec_powerOn (failed : Bool) : exec (.powerOn straps failed) s
    = .next ⟨s.pending, settle (powerOnOp straps failed s.part)⟩ := rfl

theorem exec_resetPinAssert : exec .resetPinAssert s = .next ⟨s.pending, pinAssert s.part⟩ := rfl

theorem exec_resetPinRelease : exec (.resetPinRelease straps) s
    = .next ⟨s.pending, settle (pinRelease straps s.part)⟩ := rfl

theorem exec_supplyLow : exec .supplyLow s = .next ⟨s.pending, supplyLowOp s.part⟩ := rfl

theorem exec_supplyGood (failed : Bool) : exec (.supplyGood straps failed) s
    = .next ⟨s.pending, settle (supplyGoodOp straps failed s.part)⟩ := rfl

end

/-- The block on which the supply has come back. -/
def suppliedAgain (failed : Bool) (b : Block) : Block :=
  (if failed then supplyLost b else b).setPins b.resetPin false

theorem suppliedAgain_inReset (failed : Bool) (b : Block) : (suppliedAgain failed b).inReset = b.resetPin :=
  Bool.or_false _

theorem powerOnOp_eq (straps : BitVec 2) (failed : Bool) (b : Block) :
    powerOnOp straps failed b = startUnlessHeld straps (suppliedAgain failed b) := by
  cases failed with
  | false => rfl
  | true => exact startUnlessHeld_supplyFails straps b b.resetPin false

section
variable {b : Block} (straps : BitVec 2)

/-- A supply that was low returns as at a power-on (R176). -/
theorem supplyGoodOp_low (h : b.supplyLow = true) (failed : Bool) : supplyGoodOp straps failed b = powerOnOp straps failed b :=
  if_pos h

theorem supplyGoodOp_good (h : b.supplyLow = false) (failed : Bool) : supplyGoodOp straps failed b = b :=
  if_neg (by simp [h])

theorem pinRelease_asserted (h : b.resetPin = true) :
    pinRelease straps b = startUnlessHeld straps (b.setPins false b.supplyLow) := if_pos h

theorem pinRelease_not_asserted (h : b.resetPin = false) : pinRelease straps b = b := if_neg (by simp [h])

end

theorem supplyLowOp_pin {b : Block} (h : b.resetPin = true) : supplyLowOp b = startValues { b with supplyLow := true } :=
  if_pos h

/-- With the pin not asserted, what R103, R117 and R163 name is kept (log 20). -/
theorem supplyLowOp_keeps {b : Block} (h : b.resetPin = false) :
    let low := startValues { b with supplyLow := true }
    supplyLowOp b = { low with
      charges := { b.charges with reserved := 0, applying := false },
      nv := if b.nv.fill = .filling then { Nv.start with fill := .filling, progress := b.nv.progress } else Nv.start,
      path := { low.path with refusedAddr := b.path.refusedAddr, refusedStage := b.path.refusedStage } } := by
  intro low
  have hkeeps : supplyLowOp b = keepUntilPowerOn b low := if_neg (by simp [h])
  rw [hkeeps, keepUntilPowerOn]
  by_cases hfill : b.nv.fill = .filling <;> simp only [hfill, if_true, if_false] <;> rfl

/-- Settles O60: the start values and the start as the statement writes them, then each event by the pin and the supply. -/
theorem resetsTakeStartValues : Obligations.ResetsTakeStartValues := by
  intro s serves bus owner path0 quiet released started up lost tears answers
  let torn := tornWords s.part.freeCount (s.part.nvCycle.getD [])
  have hquiet (b : Block) : startValues b = quiet b := by
    simp only [startValues, pathAfterReset, portAfterReset_eq]
    rfl
  have hreleased {b : Block} (hreset : b.inReset = false) (hst : b.stand.st = .starting) : takeHeld b = released b := by
    simp only [takeHeld, holds_starting hreset hst]
    rfl
  have hstarted (st : BitVec 2) {b : Block} (h : b.inReset = false) : startUnlessHeld st b = started st b := by
    rw [startUnlessHeld_free st h, startPart, hquiet]
    exact hreleased h rfl
  have hheld (st : BitVec 2) {b : Block} (h : b.inReset = true) : startUnlessHeld st b = quiet b :=
    (startUnlessHeld_held st h).trans (hquiet b)
  have hlost : suppliedAgain true s.part = lost torn := by
    simp only [lost, torn, tornWords_length]
    rfl
  have hanswers {c : Instr} {d b : Block} (hc : exec c s = .next ⟨s.pending, settle d⟩) (hd : d = b) : answers c b :=
    hd ▸ hc
  have hsupply {failed : Bool} {b : Block} (hb : suppliedAgain failed s.part = b) :
      (∀ st, s.part.resetPin = false → answers (.powerOn st failed) (started st b))
        ∧ (∀ st, s.part.resetPin = true → answers (.powerOn st failed) (quiet b))
        ∧ (∀ st, s.part.resetPin = false → s.part.supplyLow = true → answers (.supplyGood st failed) (started st b))
        ∧ ∀ st, s.part.resetPin = true → s.part.supplyLow = true → answers (.supplyGood st failed) (quiet b) := by
    have hpin : b.inReset = s.part.resetPin := hb ▸ suppliedAgain_inReset failed s.part
    have hpower (st : BitVec 2) : powerOnOp st failed s.part = startUnlessHeld st b := hb ▸ powerOnOp_eq st failed s.part
    have hruns (st : BitVec 2) (h : s.part.resetPin = false) : powerOnOp st failed s.part = started st b :=
      (hpower st).trans (hstarted st (hpin.trans h))
    have hrests (st : BitVec 2) (h : s.part.resetPin = true) : powerOnOp st failed s.part = quiet b :=
      (hpower st).trans (hheld st (hpin.trans h))
    exact ⟨fun st h => hanswers (exec_powerOn s st failed) (hruns st h),
      fun st h => hanswers (exec_powerOn s st failed) (hrests st h),
      fun st h hlow => hanswers (exec_supplyGood s st failed) ((supplyGoodOp_low st hlow failed).trans (hruns st h)),
      fun st h hlow => hanswers (exec_supplyGood s st failed) ((supplyGoodOp_low st hlow failed).trans (hrests st h))⟩
  obtain ⟨hpower, hpowerHeld, hgood, hgoodHeld⟩ := hsupply (failed := false) (b := up) rfl
  refine ⟨?assert, hpower, hpowerHeld, hgood, hgoodHeld,
    fun st f h => hanswers (exec_supplyGood s st f) (supplyGoodOp_good st h f),
    fun st h hlow => hanswers (exec_resetPinRelease s st) ?release,
    fun st h hlow => hanswers (exec_resetPinRelease s st) ?releaseLow,
    fun st h => hanswers (exec_resetPinRelease s st) (pinRelease_not_asserted st h),
    ⟨torn, tornWords_addresses _ _, hsupply hlost⟩, ?low⟩
  case assert => rw [exec_resetPinAssert, pinAssert, hquiet]; rfl
  case release => exact (pinRelease_asserted st h).trans (hstarted st hlow)
  case releaseLow => exact (pinRelease_asserted st h).trans (hheld st hlow)
  case low =>
    intro low
    refine ⟨fun h => ?pin, fun h => ?keeps, ?attention, ?closed⟩
    case pin => rw [exec_supplyLow, supplyLowOp_pin h, hquiet]
    case keeps => rw [exec_supplyLow, supplyLowOp_keeps h, hquiet]
    case attention => simp [Block.attention, Block.inReset, low, quiet]
    case closed => simp [Block.nvFree, Block.inReset, low, quiet]

end Sys2Proof.Machine
end

section
/-! The machine as a whole: the step and the queue, the reset state, the canonical form of memory, and the statements on them. -/

namespace Sys2Proof.Machine

/-! ## The step and the queue -/

section
variable (c : Instr) (rest : List Instr) (b : Block)

theorem step_cons : step ⟨c :: rest, b⟩ = exec c ⟨rest, b⟩ := rfl

/-- With an empty queue the block idles (log 26). -/
theorem step_nil : step ⟨[], b⟩ = .next ⟨[], b⟩ := rfl

end

/-- Settles O1: the two branches of `step`. -/
theorem stepRunsFrontCommand : Obligations.StepRunsFrontCommand :=
  fun c rest b => ⟨step_cons c rest b, step_nil b⟩

/-- Settles O2: by the dispatch, every command's meaning is one event, which changes the block alone and never faults or refuses
(log 1). -/
theorem everyCommandCompletes : Obligations.EveryCommandCompletes := by
  intro c s
  cases c <;> exact ⟨_, rfl⟩

/-- What every command keeps of the block, every step keeps. -/
theorem step_keeps {P : Block → Prop} (hexec : ∀ (c : Instr) (s t : State), P s.part → exec c s = .next t → P t.part)
    {s t : State} (h : P s.part) (hstep : step s = .next t) : P t.part := by
  obtain ⟨pending, b⟩ := s
  cases pending with
  | nil =>
    cases (step_nil b).symm.trans hstep
    exact h
  | cons c rest => exact hexec c ⟨rest, b⟩ t h ((step_cons c rest b).symm.trans hstep)

/-! ## The reset state -/

theorem reset_canonical : MemoryCanonical State.reset := rfl

/-- At reset no posting is queued, no place is reserved, and the gate has no ACTIVE entry (R44, R103). -/
theorem reset_postingsFit : PostingsFit State.reset :=
  ⟨Nat.zero_le _, fun h => absurd h (not_exposing_of_none rfl)⟩

/-- Settles O3: the start values block by block, then the reset state made of them, then the two invariants in it. -/
theorem resetLeavesStartValuesAndInvariants : Obligations.ResetLeavesStartValuesAndInvariants :=
  ⟨rfl, rfl, rfl, fun _ => rfl, rfl, rfl, rfl, rfl, rfl, rfl, reset_canonical, reset_postingsFit⟩

/-! ## The canonical form of memory -/

theorem holdsMemory_wf {c : Block} {m : List Host.Cell} (hm : Memory.wf m = true) (h : c.holdsMemory m) :
    Memory.wf c.mem = true := by
  rcases h with h | ⟨_, a, v, -, -, -, h⟩ <;> rw [h]
  · exact hm
  · exact wf_writeWord hm a v

theorem memoryStep_wf {i : Instr} {b c : Block} (hb : Memory.wf b.mem = true) (h : memoryStep i b c) :
    Memory.wf c.mem = true := by
  rcases h with h | ⟨-, l, -, h⟩
  · exact holdsMemory_wf hb h
  · exact holdsMemory_wf (wf_storeWords hb l) h

/-- What a failed supply leaves, the NV store with the torn words, is in canonical form (R117, R176). -/
theorem afterSupply_wf (failed : Bool) {b : Block} (h : Memory.wf b.mem = true) :
    Memory.wf (afterSupply failed b).mem = true := by
  cases failed with
  | false => exact h
  | true => exact wf_storeWords (wf_nvCells h) _

theorem powerOnOp_wf (straps : BitVec 2) (failed : Bool) {b : Block} (h : Memory.wf b.mem = true) :
    Memory.wf (powerOnOp straps failed b).mem = true := by
  rw [powerOnOp, startUnlessHeld_mem]
  exact afterSupply_wf failed h

theorem supplyGoodOp_wf (straps : BitVec 2) (failed : Bool) {b : Block} (h : Memory.wf b.mem = true) :
    Memory.wf (supplyGoodOp straps failed b).mem = true := by
  cases hlow : b.supplyLow with
  | false => rwa [supplyGoodOp_good straps hlow]
  | true =>
    rw [supplyGoodOp_low straps hlow]
    exact powerOnOp_wf straps failed h

/-- The commands that tell of a failed supply (log 8). -/
theorem losesSupply_cases {c : Instr} (h : losesSupply c = true) :
    ∃ straps, c = .powerOn straps true ∨ c = .supplyGood straps true := by
  unfold losesSupply at h
  split at h
  · next straps _ => exact ⟨straps, .inl (h ▸ rfl)⟩
  · next straps _ => exact ⟨straps, .inr (h ▸ rfl)⟩
  · cases h

/-- Every command keeps the canonical form: memory changes by words written, by the words of the write cycle, and by the loss
of RAM as the supply fails. -/
theorem exec_wf (c : Instr) (s t : State) (h : Memory.wf s.part.mem = true) (hexec : exec c s = .next t) :
    Memory.wf t.part.mem = true := by
  cases hloses : losesSupply c with
  | false =>
    obtain ⟨t', hexec', hmem⟩ := exec_memoryStep c s hloses
    cases hexec'.symm.trans hexec
    exact memoryStep_wf h hmem
  | true =>
    obtain ⟨straps, rfl | rfl⟩ := losesSupply_cases hloses
    · cases (exec_powerOn s straps true).symm.trans hexec
      exact settle_wf (powerOnOp_wf straps true h)
    · cases (exec_supplyGood s straps true).symm.trans hexec
      exact settle_wf (supplyGoodOp_wf straps true h)

/-- Settles O4: every command keeps the memory's canonical form, and so does an idle step. -/
theorem memoryCanonicalKept : Obligations.MemoryCanonicalKept := fun _ _ h hstep =>
  step_keeps (P := fun b => Memory.wf b.mem = true) exec_wf h hstep

end Sys2Proof.Machine
end
